-- ==== Sys2Proof/Word.lean ====
section
/-! DEFINITION. The word types of the Mercavel 2410 and the fixed-size table its blocks are made of. -/

namespace Sys2Proof

/-- One character's eight data bits, one byte of a header, a payload or a table entry. -/
abbrev Byte := BitVec 8

/-- A selector in one-byte form, port index × 64 + node (00_scope, "Names"). -/
abbrev Selector := BitVec 8

/-- One entry of the saturation table: an unsigned 24-bit integer in tenths of a pascal (R26). -/
abbrev SvtEntry := BitVec 24

/-- A table of exactly `n` entries. -/
structure Tbl (n : Nat) (α : Type) where
  cells : List α
  size : cells.length = n
deriving DecidableEq, Repr

/-- The entry at an index. -/
def Tbl.get {n : Nat} {α : Type} (t : Tbl n α) (i : Fin n) : α :=
  t.cells[i.val]'(by have := t.size; omega)

/-- The table with one entry replaced. -/
def Tbl.set {n : Nat} {α : Type} (t : Tbl n α) (i : Fin n) (v : α) : Tbl n α :=
  ⟨t.cells.set i.val v, by simp [t.size]⟩

/-- The table with every entry changed by one function. -/
def Tbl.map {n : Nat} {α β : Type} (f : α → β) (t : Tbl n α) : Tbl n β :=
  ⟨t.cells.map f, by simp [t.size]⟩

/-- A table with the same entry everywhere. -/
def Tbl.fill (n : Nat) {α : Type} (v : α) : Tbl n α :=
  ⟨List.replicate n v, by simp⟩

/-- The indices of a table whose entry satisfies a test, in ascending order. -/
def Tbl.indices {n : Nat} {α : Type} (t : Tbl n α) (p : α → Bool) : List (Fin n) :=
  (List.finRange n).filter fun i => p (t.get i)

end Sys2Proof
end

