-- ==== Sys2Proof/Machine/Bytes.lean ====
section
/-! DEFINITION. Byte order, sign extension, flag bytes and saturating counts (R193, 00_scope "Numbers
and counters"). -/

namespace Sys2Proof.Machine

/-- A counter after one more event: 16 bits, saturating (00_scope, "Numbers and counters"). -/
def satInc (n : Nat) : Nat := min (n + 1) 65535

/-- A counter after `k` more events. -/
def satAdd (n k : Nat) : Nat := min (n + k) 65535

/-- One unsigned byte. -/
def u8 (n : Nat) : Byte := BitVec.ofNat 8 n

/-- An unsigned 16-bit field, high byte first (R193). -/
def u16 (n : Nat) : List Byte := [u8 (n / 256), u8 n]

/-- An unsigned 24-bit field, high byte first. -/
def u24 (n : Nat) : List Byte := [u8 (n / 65536), u8 (n / 256), u8 n]

/-- An unsigned 32-bit field, high byte first. -/
def u32 (n : Nat) : List Byte := [u8 (n / 16777216), u8 (n / 65536), u8 (n / 256), u8 n]

/-- A signed 16-bit field in two's complement, high byte first (R193). -/
def i16 (z : Int) : List Byte :=
  let w := BitVec.ofInt 16 z
  [w.extractLsb' 8 8, w.extractLsb' 0 8]

/-- An absent value is sent as 0 (R193). -/
def i16? (z : Option Int) : List Byte := i16 (z.getD 0)

/-- The unsigned 16-bit value of two received bytes. -/
def nat16 (hi lo : Byte) : Nat := hi.toNat * 256 + lo.toNat

/-- The signed 16-bit value of two received bytes. -/
def int16 (hi lo : Byte) : Int := (hi ++ lo : BitVec 16).toInt

/-- The unsigned 24-bit value of three received bytes. -/
def svt24 (hi mid lo : Byte) : SvtEntry := (hi ++ mid ++ lo : BitVec 24)

/-- A flag byte: the flags from bit 0 upward, in the order named (R193). -/
def flagByte : List Bool → Byte
  | [] => 0
  | b :: rest => (flagByte rest <<< 1) ||| (if b then 1 else 0)

/-- One flag as a number. -/
def bit (b : Bool) : Nat := if b then 1 else 0

/-- `i` inside the closed range from `lo` to `hi`. -/
def inRange (lo hi i : Int) : Bool := decide (lo ≤ i) && decide (i ≤ hi)

/-- `i` clamped to the closed range from `lo` to `hi`. -/
def clampTo (lo hi i : Int) : Int := if i < lo then lo else if hi < i then hi else i

end Sys2Proof.Machine
end

