-- ==== Sys2Proof/Syntax.lean ====
section
/-! DEFINITION. What the part is sent: ports, frames, received characters, and the 59 commands of
spec/opcode_table.json, one constructor of `Instr` per row. -/

namespace Sys2Proof

/-- The floor ports F0 to F3. -/
inductive FloorPort where
  | f0 | f1 | f2 | f3
deriving DecidableEq, Repr

/-- The five line ports (R119). -/
inductive Port where
  | floor (p : FloorPort)
  | u
deriving DecidableEq, Repr

/-- The scopes a good frame's header can name (R129, R193). -/
inductive Scope where
  | unit | f0 | f1 | f2 | f3 | allfloor
deriving DecidableEq, Repr

/-- The header fields of a frame besides its kind and its length (12.2). -/
structure Envelope where
  dstUnit : BitVec 4
  dstScope : Scope
  dstNode : BitVec 6
  srcUnit : BitVec 4
  srcScope : Scope
  srcNode : BitVec 6
  rpl : BitVec 2
  tag : Byte
deriving DecidableEq, Repr

/-- A frame as the router sees it: header fields, kind code (codes that name no kind included) and
payload. The length field is the payload's length. -/
structure Frame where
  env : Envelope
  kind : BitVec 4
  payload : List Byte
deriving DecidableEq, Repr

/-- What the line shows around one character, cell by cell as the receiver divides it (R122, R124): the
level just before the start cell, then the levels seen within each cell, start cell first, in time order.
`true` is the high level of a floor port's optical module, and on U the line's idle polarity. -/
structure LineChar where
  before : Bool
  cells : List (List Bool)
deriving DecidableEq, Repr

/-- The line of a floor port at a level, `true` for the high level of its optical module. -/
structure FloorLevel where
  port : FloorPort
  level : Bool
deriving DecidableEq, Repr

/-- The bits a receiver reads from one character: data, the parity bit (not looked at under parity NONE)
and the stop bit (R120). -/
structure RxBits where
  data : Byte
  parityBit : Bool
  stopBit : Bool
deriving DecidableEq, Repr

/-- What a management-request row carries: the header fields, the level of the COMMISSION input at
this event (R175), and the request's index, count and data. -/
structure MgmtOperand where
  env : Envelope
  commission : Bool
  index : Byte
  count : Byte
  data : List Byte
deriving DecidableEq, Repr

/-- The commands of the part, one constructor per row of spec/opcode_table.json, in its order. -/
inductive Instr where
  /-- RESET_ASSERTED (R191). -/
  | resetAsserted
  /-- POWER_ON (R191), with the levels of the straps UA2 UA1 UA0. -/
  | powerOn (straps : BitVec 3)
  /-- SECONDS_TICK (R16, R65, R163). -/
  | secondsTick
  /-- STALENESS_EXPIRY (R16): a tick has brought this sensor's age to its limit. -/
  | stalenessExpiry (sel : Selector)
  /-- EPOCH_EXPIRY (R66). -/
  | epochExpiry
  /-- SILENCE_ENTRY (R163). -/
  | silenceEntry
  /-- LOS_ASSERTED (R132). -/
  | losAsserted (p : FloorPort)
  /-- LOS_RELEASED (R133). -/
  | losReleased (p : FloorPort)
  /-- CHARACTER_RECEIVED (R125). `ended`: the receiver reaches the end of the stop cell of what the line
  showed. Otherwise its start cell has begun, and the port is part way through it (R119; log 3).
  `commission`: the COMMISSION level. -/
  | characterReceived (p : Port) (l : LineChar) (ended : Bool) (commission : Bool)
  /-- GAP_TIMEOUT (R127). -/
  | gapTimeout (p : Port)
  /-- BREAK_RECOGNISED (R123): the line has stood at a level for 2 character times. -/
  | breakRecognised (x : FloorLevel)
  /-- BREAK_END (R123): the line goes to a level. -/
  | breakEnd (x : FloorLevel)
  /-- FOREIGN_FRAME_IGNORED (R145). -/
  | foreignFrameIgnored (f : Frame)
  /-- SAMPLE (R6, R140). -/
  | sample (p : FloorPort) (e : Envelope) (payload : List Byte)
  /-- AIR_JOB_COMPLETION (R54). -/
  | airJobCompletion
  /-- SURFACE_JOB_COMPLETION (R55). -/
  | surfaceJobCompletion
  /-- ZONE_JOB_COMPLETION (R57). -/
  | zoneJobCompletion
  /-- NODE_STATUS (R141). -/
  | nodeStatus (p : FloorPort) (e : Envelope) (payload : List Byte)
  /-- NODE_CMD (R148). -/
  | nodeCmd (e : Envelope) (payload : List Byte)
  /-- MISDIRECTED_FRAME (R143, R147). -/
  | misdirectedFrame (p : Port) (f : Frame)
  /-- UNKNOWN_KIND_FRAME (R143, R147). -/
  | unknownKindFrame (p : Port) (f : Frame)
  /-- GRANT (R158). -/
  | grant (e : Envelope) (payload : List Byte)
  /-- POLL (R115). -/
  | poll (e : Envelope) (payload : List Byte)
  /-- U_TRANSMIT_START (R131). -/
  | uTransmitStart
  /-- U_FRAME_SENT (R131). -/
  | uFrameSent
  /-- COLLISION (R162): the echo check fails on character `pos` of the frame, while which the line showed
  `back`. -/
  | collision (pos : Nat) (back : LineChar)
  /-- FLOOR_FRAME_SENT (R130). -/
  | floorFrameSent (p : FloorPort)
  /-- SETTINGS_TAKE_EFFECT (R134). -/
  | settingsTakeEffect (p : Port)
  /-- READ (R179), with the table code of the request. -/
  | read (p : Port) (table : Byte) (r : MgmtOperand)
  /-- WRITE_SDT (R5). -/
  | writeSdt (p : Port) (r : MgmtOperand)
  /-- WRITE_SFT (R81). -/
  | writeSft (p : Port) (r : MgmtOperand)
  /-- EXCHANGE_SFT (R82). -/
  | exchangeSft (p : Port) (r : MgmtOperand)
  /-- WRITE_THR (R79). -/
  | writeThr (p : Port) (r : MgmtOperand)
  /-- EXCHANGE_THR (R79). -/
  | exchangeThr (p : Port) (r : MgmtOperand)
  /-- WRITE_ZONE (R62). -/
  | writeZone (p : Port) (r : MgmtOperand)
  /-- WRITE_SLOT (R109). -/
  | writeSlot (p : Port) (r : MgmtOperand)
  /-- WRITE_EPOCH_LENGTH (R187): CONFIG index 0. -/
  | writeEpochLength (p : Port) (r : MgmtOperand)
  /-- WRITE_SILENCE_LIMIT (R187): CONFIG index 1. -/
  | writeSilenceLimit (p : Port) (r : MgmtOperand)
  /-- WRITE_LINE_SETTINGS (R187): CONFIG index 2. -/
  | writeLineSettings (p : Port) (r : MgmtOperand)
  /-- SVT_LOAD (R30); the table field is not examined (R174). -/
  | svtLoad (p : Port) (table : Byte) (r : MgmtOperand)
  /-- SVT_COMMIT (R32); the table field is not examined (R174). -/
  | svtCommit (p : Port) (table : Byte) (r : MgmtOperand)
  /-- COMMIT_CHECK_COMPLETION (R33, R34). -/
  | commitCheckCompletion
  /-- QUERY_SENSOR (R23). -/
  | querySensor (p : Port) (r : MgmtOperand)
  /-- QUERY_SURFACE (R98). -/
  | querySurface (p : Port) (r : MgmtOperand)
  /-- QUERY_ZONE (R74). -/
  | queryZone (p : Port) (r : MgmtOperand)
  /-- QUERY_SLOT (R116). -/
  | querySlot (p : Port) (r : MgmtOperand)
  /-- QUERY_PORT (R135). -/
  | queryPort (p : Port) (r : MgmtOperand)
  /-- QUERY_UNIT (R183). -/
  | queryUnit (p : Port) (r : MgmtOperand)
  /-- CLEAR_COUNTERS (R184). -/
  | clearCounters (p : Port) (r : MgmtOperand)
  /-- CLEAR_ACCESSED (R21). -/
  | clearAccessed (p : Port) (r : MgmtOperand)
  /-- CLEAR_SLOT_FLAGS (R116). -/
  | clearSlotFlags (p : Port) (r : MgmtOperand)
  /-- CLEAR_SURFACE_COUNTS (R98). -/
  | clearSurfaceCounts (p : Port) (r : MgmtOperand)
  /-- CLEAR_ZONE_FLAGS (R74). -/
  | clearZoneFlags (p : Port) (r : MgmtOperand)
  /-- CLEAR_ALARM (R108). -/
  | clearAlarm (p : Port) (r : MgmtOperand)
  /-- RESTART (R185); the table field is not examined (R174). -/
  | restart (p : Port) (table : Byte) (r : MgmtOperand)
  /-- RESTART_TAKES_EFFECT (R185). -/
  | restartTakesEffect
  /-- SERVICE_COMPLETION (R172). -/
  | serviceCompletion
  /-- MALFORMED_REQUEST (R174): a MGMT_REQ whose payload is none of the other request rows. -/
  | malformedRequest (p : Port) (e : Envelope) (commission : Bool) (payload : List Byte)
  /-- SUPPLY_REMOVED (R190). -/
  | supplyRemoved
deriving DecidableEq, Repr

end Sys2Proof
end

