-- ==== Sys2Proof/Decode.lean ====
section
/-! DEFINITION. Decoding: frames from characters and back (R126, R128, R129, 12.2), the row of the
opcode table a good frame belongs to (R139 to R147, R174), and `decodeTableWord`. -/

namespace Sys2Proof

/-- Scope codes (12.1). -/
def Scope.code : Scope → BitVec 4
  | .unit => 0 | .f0 => 1 | .f1 => 2 | .f2 => 3 | .f3 => 4 | .allfloor => 5

/-- A scope code of 6 to 15 names no scope (R129, R194). -/
def Scope.ofCode (c : BitVec 4) : Option Scope :=
  match c.toNat with
  | 0 => some .unit | 1 => some .f0 | 2 => some .f1 | 3 => some .f2 | 4 => some .f3
  | 5 => some .allfloor | _ => none

/-- The frame kinds (R138). -/
inductive FrameKind where
  | sample | nodeStatus | nodeCmd | enriched | report | mgmtReq | mgmtReply | grant | release | poll
deriving DecidableEq, Repr

/-- Frame kind codes (R138). -/
def FrameKind.code : FrameKind → BitVec 4
  | .sample => 1 | .nodeStatus => 2 | .nodeCmd => 3 | .enriched => 4 | .report => 5
  | .mgmtReq => 6 | .mgmtReply => 7 | .grant => 8 | .release => 9 | .poll => 10

/-- Codes 0 and 11 to 15 name no kind (R138). -/
def FrameKind.ofCode (c : BitVec 4) : Option FrameKind :=
  match c.toNat with
  | 1 => some .sample | 2 => some .nodeStatus | 3 => some .nodeCmd | 4 => some .enriched
  | 5 => some .report | 6 => some .mgmtReq | 7 => some .mgmtReply | 8 => some .grant
  | 9 => some .release | 10 => some .poll | _ => none

/-- The start character of every frame (R125). -/
def startChar : Byte := 0x9B

/-- The longest payload (R126). -/
def maxPayload : Nat := 48

/-- One shift of the CRC register, polynomial x^16 + x^12 + x^5 + 1 (R128). -/
def crcShift (c : BitVec 16) : BitVec 16 :=
  if c.msb then (c <<< 1) ^^^ 0x1021#16 else c <<< 1

/-- One byte enters the CRC, most significant bit first (R128). -/
def crcByte (c : BitVec 16) (b : Byte) : BitVec 16 :=
  let x := c ^^^ (b.setWidth 16 <<< 8)
  crcShift (crcShift (crcShift (crcShift (crcShift (crcShift (crcShift (crcShift x)))))))

/-- The CRC of header and payload bytes, initial value 0xFFFF (R128). -/
def crc16 (bytes : List Byte) : BitVec 16 := bytes.foldl crcByte 0xFFFF#16

/-- The two CRC bytes, high byte first (R128). -/
def crcBytes (bytes : List Byte) : List Byte :=
  [(crc16 bytes).extractLsb' 8 8, (crc16 bytes).extractLsb' 0 8]

/-- The seven header bytes of a frame, every bit of no field sent as 0 (R193, 12.2). -/
def headerBytes (f : Frame) : List Byte :=
  [ (f.env.dstUnit ++ f.env.dstScope.code : BitVec 8),
    (0#2 ++ f.env.dstNode : BitVec 8),
    (f.env.srcUnit ++ f.env.srcScope.code : BitVec 8),
    (0#2 ++ f.env.srcNode : BitVec 8),
    (0#2 ++ f.env.rpl ++ f.kind : BitVec 8),
    f.env.tag,
    BitVec.ofNat 8 f.payload.length ]

/-- The characters of a frame on a line: start character, header, payload, CRC (R130). -/
def encodeFrame (f : Frame) : List Byte :=
  startChar :: (headerBytes f ++ f.payload ++ crcBytes (headerBytes f ++ f.payload))

/-- What the bytes of a completed frame are (R129, its last three cases). -/
inductive FrameOutcome where
  /-- The bytes are not a start character, a header and the length's worth of bytes. -/
  | noFrame
  | crcMismatch
  | badScope
  | good (f : Frame)
deriving DecidableEq, Repr

/-- Read the bytes of a completed frame. Header bits of no field are ignored (R194). -/
def decodeFrame : List Byte → FrameOutcome
  | s :: h0 :: h1 :: h2 :: h3 :: h4 :: h5 :: h6 :: rest =>
    if s ≠ startChar ∨ rest.length ≠ h6.toNat + 2 then .noFrame
    else
      let payload := rest.take h6.toNat
      if rest.drop h6.toNat ≠ crcBytes ([h0, h1, h2, h3, h4, h5, h6] ++ payload) then .crcMismatch
      else
        match Scope.ofCode (h0.extractLsb' 0 4), Scope.ofCode (h2.extractLsb' 0 4) with
        | some d, some r =>
          .good
            { env :=
                { dstUnit := h0.extractLsb' 4 4, dstScope := d, dstNode := h1.extractLsb' 0 6,
                  srcUnit := h2.extractLsb' 4 4, srcScope := r, srcNode := h3.extractLsb' 0 6,
                  rpl := h4.extractLsb' 4 2, tag := h5 },
              kind := h4.extractLsb' 0 4, payload := payload }
        | _, _ => .badScope
  | _ => .noFrame

/-- The request rows of the opcode table. -/
inductive RequestRow where
  | read | writeSdt | writeSft | exchangeSft | writeThr | exchangeThr | writeZone | writeSlot
  | writeEpochLength | writeSilenceLimit | writeLineSettings | svtLoad | svtCommit
  | querySensor | querySurface | queryZone | querySlot | queryPort | queryUnit
  | clearCounters | clearAccessed | clearSlotFlags | clearSurfaceCounts | clearZoneFlags | clearAlarm
  | restart
  /-- A request that is none of the above: shorter than four bytes, an unknown command, or a table,
  subject or target for which the opcode table has no row (R174 steps 1 to 3). -/
  | malformed
deriving DecidableEq, Repr

/-- The request row of a MGMT_REQ payload, by its command and table codes (12.1). -/
def requestRow : List Byte → RequestRow
  | cmd :: table :: index :: _ :: _ =>
    match cmd.toNat, table.toNat with
    | 1, _ => .read
    | 2, 1 => .writeSdt
    | 2, 4 => .writeSft
    | 2, 5 => .writeThr
    | 2, 6 => .writeZone
    | 2, 7 => .writeSlot
    | 2, 8 =>
      match index.toNat with
      | 0 => .writeEpochLength
      | 1 => .writeSilenceLimit
      | 2 => .writeLineSettings
      | _ => .malformed
    | 3, 4 => .exchangeSft
    | 3, 5 => .exchangeThr
    | 4, _ => .svtLoad
    | 5, _ => .svtCommit
    | 6, 1 => .querySensor
    | 6, 2 => .querySurface
    | 6, 3 => .queryZone
    | 6, 4 => .querySlot
    | 6, 5 => .queryPort
    | 6, 6 => .queryUnit
    | 7, 1 => .clearCounters
    | 7, 2 => .clearAccessed
    | 7, 3 => .clearSlotFlags
    | 7, 4 => .clearSurfaceCounts
    | 7, 5 => .clearZoneFlags
    | 7, 6 => .clearAlarm
    | 8, _ => .restart
    | _, _ => .malformed
  | _ => .malformed

/-- The rows of the opcode table a good frame can belong to. -/
inductive FrameRow where
  | foreign | sample | nodeStatus | nodeCmd | misdirected | unknownKind | grant | poll
  | mgmt (r : RequestRow)
deriving DecidableEq, Repr

/-- The row of a good frame from a floor port (R139 to R143). The destination unit is not examined. -/
def floorRow (f : Frame) : FrameRow :=
  match FrameKind.ofCode f.kind with
  | none => .unknownKind
  | some .sample => .sample
  | some .nodeStatus => .nodeStatus
  | some .mgmtReq => if f.env.dstScope = .unit then .mgmt (requestRow f.payload) else .misdirected
  | some _ => .misdirected

/-- The row of a good frame from U, for the unit whose number is `own` (R145 to R147). -/
def supervisorRow (own : BitVec 4) (f : Frame) : FrameRow :=
  if f.env.srcUnit ≠ 0 then .foreign
  else if f.env.dstUnit ≠ own ∧ f.env.dstUnit ≠ 15 then .foreign
  else
    match FrameKind.ofCode f.kind with
    | none => .unknownKind
    | some .grant =>
      if f.env.dstUnit = own ∧ f.env.dstScope = .unit then .grant else .misdirected
    | some .mgmtReq =>
      if f.env.dstUnit = own ∧ f.env.dstScope = .unit then .mgmt (requestRow f.payload)
      else .misdirected
    | some .poll => if f.env.dstUnit = own then .poll else .misdirected
    | some .nodeCmd => if f.env.dstScope = .unit then .misdirected else .nodeCmd
    | some _ => .misdirected

/-- The row of a good frame that arrives on a port. -/
def frameRow (own : BitVec 4) (p : Port) (f : Frame) : FrameRow :=
  match p with
  | .floor _ => floorRow f
  | .u => supervisorRow own f

/-- The command a word of the opcode table spells. No row of this part's table gives bits, so no word
spells a command. -/
def decodeTableWord (_nbits _w : Nat) : Option Instr := none

end Sys2Proof
end

