-- ==== Sys2Proof/Config.lean ====
section
/-! DEFINITION. What the part fixes by number. The model has no free value. -/

namespace Sys2Proof

/-- Sample jobs the evaluation queue holds (R38). -/
abbrev Config.evalQueueSize : Nat := 32

/-- Frames the forward queue holds (R165). -/
abbrev Config.forwardQueueSize : Nat := 32

/-- Frames a downward queue holds (R148). -/
abbrev Config.downwardQueueSize : Nat := 4

/-- Entries that fill a batch (R105). -/
abbrev Config.batchSize : Nat := 7

/-- The largest budget of a turn (R158). -/
abbrev Config.maxBudget : Nat := 16

/-- The report run at which the starvation guard acts (R159). -/
abbrev Config.starvationRun : Nat := 4

end Sys2Proof
end

