-- ==== Sys2Proof/Machine/FactoryTable.lean ====
section
/-! DEFINITION. The factory saturation table (R27). -/

namespace Sys2Proof.Machine

/-- Entries 0 to 49 of the factory table. -/
def factory0 : List Nat :=
  [190, 200, 211, 222, 234, 246, 259, 272, 286, 300,
   316, 332, 348, 366, 384, 403, 423, 444, 465, 488,
   512, 536, 562, 589, 617, 646, 676, 708, 741, 775,
   811, 848, 887, 928, 970, 1013, 1059, 1106, 1155, 1206,
   1260, 1315, 1372, 1432, 1494, 1558, 1625, 1694, 1766, 1841]

/-- Entries 50 to 99 of the factory table. -/
def factory1 : List Nat :=
  [1919, 1999, 2083, 2169, 2259, 2352, 2448, 2548, 2652, 2759,
   2870, 2985, 3105, 3228, 3356, 3488, 3625, 3767, 3913, 4065,
   4222, 4384, 4552, 4725, 4904, 5090, 5281, 5479, 5683, 5894,
   6112, 6337, 6569, 6809, 7057, 7313, 7576, 7848, 8129, 8419,
   8717, 9025, 9343, 9670, 10008, 10356, 10714, 11084, 11464, 11856]

/-- Entries 100 to 149 of the factory table. -/
def factory2 : List Nat :=
  [12260, 12676, 13105, 13546, 14000, 14467, 14948, 15444, 15953, 16477,
   17017, 17572, 18142, 18729, 19333, 19953, 20591, 21247, 21921, 22614,
   23326, 24057, 24809, 25581, 26374, 27189, 28025, 28884, 29766, 30671,
   31601, 32554, 33533, 34538, 35569, 36627, 37711, 38824, 39966, 41137,
   42337, 43568, 44830, 46124, 47450, 48810, 50203, 51631, 53094, 54593]

/-- Entries 150 to 199 of the factory table. -/
def factory3 : List Nat :=
  [56128, 57701, 59313, 60963, 62653, 64384, 66156, 67970, 69827, 71729,
   73675, 75666, 77704, 79790, 81924, 84107, 86341, 88626, 90963, 93353,
   95797, 98297, 100852, 103465, 106137, 108868, 111659, 114512, 117427, 120407,
   123452, 126562, 129741, 132988, 136304, 139692, 143152, 146686, 150294, 153979,
   157742, 161583, 165504, 169507, 173593, 177764, 182020, 186364, 190796, 195319]

/-- Entries 200 to 249 of the factory table. -/
def factory4 : List Nat :=
  [199933, 204640, 209443, 214342, 219338, 224435, 229632, 234933, 240337, 245848,
   251467, 257196, 263035, 268988, 275056, 281240, 287543, 293966, 300512, 307181,
   313977, 320900, 327954, 335139, 342458, 349913, 357506, 365239, 373114, 381133,
   389299, 397613, 406077, 414695, 423468, 432398, 441487, 450739, 460155, 469737,
   479489, 489411, 499508, 509781, 520232, 530865, 541681, 552683, 563875, 575258]

/-- Entries 250 to 250 of the factory table. -/
def factory5 : List Nat :=
  [586835]

/-- The factory table's entries in tenths of a pascal: 6112 × exp(17.62 t / (243.12 + t)) at −40.0 °C
to +85.0 °C in steps of 0.5 °C, rounded to the nearest unit. Entry 250 is the value R27 states, one
above what the formula gives (log 19). -/
def factoryValues : List Nat :=
  factory0 ++ factory1 ++ factory2 ++ factory3 ++ factory4 ++ factory5

/-- The factory table (R27). -/
def factoryTable : Tbl 251 SvtEntry :=
  ⟨factoryValues.map (BitVec.ofNat 24), by decide +kernel⟩

end Sys2Proof.Machine
end

