-- ==== Sys2Proof/Machine/Records.lean ====
section
/-! DEFINITION. The records of each block and their power-on values. -/

namespace Sys2Proof.Machine

/-! ### Sensor descriptors (chapter 1) -/

/-- The three sensor kinds. -/
inductive SensorKind where
  | air | surface | wetness
deriving DecidableEq, Repr

/-- Forward modes (R2, R166). -/
inductive ForwardMode where
  | off | raw | enriched | changed
deriving DecidableEq, Repr

/-- The states of a present sensor (1.6). -/
inductive Phase where
  | awaiting | live | stale | suspect
deriving DecidableEq, Repr

/-- Sensor states, VACANT included (R1). -/
inductive SensorState where
  | vacant | awaiting | live | stale | suspect
deriving DecidableEq, Repr

/-- A present sensor's phase as a sensor state. -/
def Phase.state : Phase → SensorState
  | .awaiting => .awaiting | .live => .live | .stale => .stale | .suspect => .suspect

/-- A wet value (R11). -/
inductive Wet where
  | dry | water
deriving DecidableEq, Repr

/-- The configuration record of a present descriptor (R2). -/
structure SensorConfig where
  kind : SensorKind
  zone : Fin 32
  weight : Fin 16
  mode : ForwardMode
  deadband : Nat
  reportEnable : Bool
  ext : BitVec 16
  rhOffset : Int
  tOffset : Int
  tLo : Int
  tHi : Int
  staleLimit : Nat
deriving DecidableEq, Repr

/-- Results of the last AIR job delivered, with the generation they were computed under (1.3). -/
structure AirResult where
  e : Nat
  td : Int
  gen : BitVec 8
deriving DecidableEq, Repr

/-- The condensation grades (R78). -/
inductive Grade where
  | blind | clear | watch | alert | wet
deriving DecidableEq, Repr

/-- What the CHANGED mode compares (R167). -/
inductive RefValue where
  | air (td : Option Int)
  | surfaceFull (surface : Fin 64) (grade : Grade) (margin : Option Int)
  | surfaceDetached
  | wetness (wet : Option Wet)
deriving DecidableEq, Repr

/-- A forwarded reference: the state and the compared values last offered (R167). -/
structure ForwardRef where
  state : SensorState
  value : RefValue
deriving DecidableEq, Repr

/-- One sensor descriptor. `config` is absent exactly when the descriptor is VACANT (R1); then every
configuration field reads as zero (R4) and `phase` has no meaning. -/
structure Descriptor where
  config : Option SensorConfig
  phase : Phase
  age : Nat
  rejects : Nat
  lastT : Option Int
  lastRh : Option Nat
  lastAir : Option AirResult
  lastWet : Option Wet
  clamped : Bool
  saturated : Bool
  belowTable : Bool
  unevaluated : Bool
  accessed : Bool
  version : BitVec 8
  forwarded : Option ForwardRef
  formatRejects : Nat
  plausibilityRejects : Nat
deriving DecidableEq, Repr

/-- A descriptor at power-on (R24). -/
def Descriptor.powerOn : Descriptor :=
  { config := none, phase := .awaiting, age := 0, rejects := 0, lastT := none, lastRh := none,
    lastAir := none, lastWet := none, clamped := false, saturated := false, belowTable := false,
    unevaluated := false, accessed := false, version := 0, forwarded := none, formatRejects := 0,
    plausibilityRejects := 0 }

/-- The sensor state (1.3). -/
def Descriptor.state (d : Descriptor) : SensorState :=
  match d.config with
  | none => .vacant
  | some _ => d.phase.state

/-- The unit counters of R22 and R106. -/
structure UnitCounters where
  unknownSource : Nat
  coalesced : Nat
  eqOverflow : Nat
  versionDiscard : Nat
  reportLoss : Nat
deriving DecidableEq, Repr

/-- Every unit counter at 0 (R24, R117). -/
def UnitCounters.zero : UnitCounters :=
  { unknownSource := 0, coalesced := 0, eqOverflow := 0, versionDiscard := 0, reportLoss := 0 }

/-! ### The saturation table (chapter 2) -/

/-- The states of the shadow bank (R26). -/
inductive ShadowState where
  | previous | dirty
deriving DecidableEq, Repr

/-- One bank: 251 entries (R26). -/
abbrev Bank := Tbl 251 SvtEntry

/-- The table block (R26). -/
structure Svt where
  active : Bank
  shadow : Bank
  shadowState : ShadowState
  gen : BitVec 8
deriving DecidableEq, Repr

/-- The table block at power-on (R27). -/
def Svt.powerOn : Svt :=
  { active := factoryTable, shadow := factoryTable, shadowState := .previous, gen := 0 }

/-! ### Evaluation (chapter 3) -/

/-- The corrected reading a sample job carries: temperature, and for AIR the humidity with the
SATURATED flag (R38). -/
inductive Reading where
  | air (t : Int) (rh : Nat) (saturated : Bool)
  | surface (t : Int)
deriving DecidableEq, Repr

/-- An evaluation-queue entry (R38). -/
structure SampleJob where
  sel : Selector
  reading : Reading
  clamped : Bool
  version : BitVec 8
deriving DecidableEq, Repr

/-- The snapshot of a zone's accumulators (R39). -/
structure Snapshot where
  swe : Nat
  sw : Nat
  n : Nat
deriving DecidableEq, Repr

/-- Dew-point source of a surface (R51). -/
inductive Source where
  | air | fallback
deriving DecidableEq, Repr

/-- A dew-point capture: Td_eff with its source, or BLIND (R51). -/
abbrev Capture := Option (Int × Source)

/-- The binding of a SURFACE job: surface index, captured surface version, capture (R40). -/
structure Binding where
  surface : Fin 64
  version : BitVec 8
  capture : Capture
deriving DecidableEq, Repr

/-- The job in flight (R40). -/
inductive Job where
  | air (sel : Selector) (t : Int) (rh : Nat) (clamped saturated : Bool) (gen version : BitVec 8)
  | surface (sel : Selector) (t : Int) (clamped : Bool) (gen version : BitVec 8)
      (binding : Option Binding)
  | zone (z : Fin 32) (snap : Snapshot) (gen : BitVec 8)
deriving DecidableEq, Repr

/-- The generation a job captured (R42). -/
def Job.gen : Job → BitVec 8
  | .air _ _ _ _ _ g _ => g
  | .surface _ _ _ g _ _ => g
  | .zone _ _ g => g

/-! ### Zones (chapter 4) -/

/-- A zone's last result (R61). -/
inductive ZoneResult where
  | none
  | valid (e : Nat) (td : Int)
  | saturated
deriving DecidableEq, Repr

/-- A zone record (R61). `worst` absent is worst grade NONE with no worst surface (R71). -/
structure Zone where
  summary : Bool
  fallback : Bool
  swe : Nat
  sw : Nat
  n : Nat
  overflow : Bool
  result : ZoneResult
  closed : Nat
  overrun : Bool
  worst : Option (Grade × Fin 64)
deriving DecidableEq, Repr

/-- A zone record at power-on (R75). -/
def Zone.powerOn : Zone :=
  { summary := false, fallback := true, swe := 0, sw := 0, n := 0, overflow := false,
    result := .none, closed := 0, overrun := false, worst := none }

/-! ### Surfaces (chapter 5) -/

/-- The configuration of an in-use surface record (R77). -/
structure SurfaceConfig where
  probe : Selector
  zone : Fin 32
  thr : Fin 8
  reportEnable : Bool
  assoc : List Selector
  wetness : Option Selector
deriving DecidableEq, Repr

/-- A surface record (R77, R78). `config` is absent exactly when the record is not in use. -/
structure Surface where
  config : Option SurfaceConfig
  grade : Grade
  confirmed : Bool
  source : Option Source
  margin : Option Int
  dwell : Nat
  changes : Nat
  version : BitVec 8
deriving DecidableEq, Repr

/-- A surface record at power-on (R99). -/
def Surface.powerOn : Surface :=
  { config := none, grade := .blind, confirmed := false, source := none, margin := none, dwell := 0,
    changes := 0, version := 0 }

/-- A threshold set (R79). -/
structure ThrSet where
  watch : Int
  alert : Int
  wet : Int
  hyst : Nat
  dwell : Nat
deriving DecidableEq, Repr

/-- The factory threshold set (R79). -/
def ThrSet.factory : ThrSet := { watch := 300, alert := 150, wet := 50, hyst := 40, dwell := 3 }

/-! ### Report slots (chapter 6) -/

/-- Link codes (R102). -/
inductive LinkCode where
  | lost | restored | silence | silenceEnd
deriving DecidableEq, Repr

/-- Report events, which are also the entries of the slots (R101, R102). -/
inductive Event where
  | grade (surface : Fin 64) (left entered : Grade) (margin : Option Int)
      (confirmed fallback : Bool)
  | zone (z : Fin 32) (result : ZoneResult) (closed : Nat) (worst : Option (Grade × Fin 64))
  | sensor (sel : Selector) (left entered : SensorState) (age rejects : Nat)
  | link (port : Fin 5) (code : LinkCode)
  | start (unitNo : BitVec 4) (warm : Bool) (gen : BitVec 8) (tablesEmpty : Bool)
deriving DecidableEq, Repr

/-- Slot modes (R103). -/
inductive SlotMode where
  | single | batch
deriving DecidableEq, Repr

/-- A slot binding (R103). Bits 0 to 4 of `kinds` stand for GRADE, ZONE, SENSOR, LINK, START. -/
structure SlotBinding where
  kinds : BitVec 5
  idMatch : Byte
  idMask : Byte
  mode : SlotMode
  singleShot : Bool
  inhibit : Bool
deriving DecidableEq, Repr

/-- Every binding field zero (R117). -/
def SlotBinding.zero : SlotBinding :=
  { kinds := 0, idMatch := 0, idMask := 0, mode := .single, singleShot := false, inhibit := false }

/-- Slot states (R103). -/
inductive SlotState where
  | idle | empty | collecting | pending | sending
deriving DecidableEq, Repr

/-- A report slot (R103). -/
structure Slot where
  binding : SlotBinding
  state : SlotState
  entries : List Event
  lost : Bool
  failed : Bool
  sent : Nat
deriving DecidableEq, Repr

/-- A slot that is IDLE at power-on (R117). -/
def Slot.idle : Slot :=
  { binding := .zero, state := .idle, entries := [], lost := false, failed := false, sent := 0 }

/-- The power-on binding of slot 15: START and LINK, every id, SINGLE (R117). -/
def SlotBinding.slot15 : SlotBinding := { SlotBinding.zero with kinds := 0b11000 }

/-- The slots at power-on, before the START event is placed (R117). -/
def slotsPowerOn : Tbl 16 Slot :=
  (Tbl.fill 16 Slot.idle).set 15 { Slot.idle with binding := .slot15, state := .empty }

/-! ### Line ports and router (chapters 7 and 8) -/

/-- Parity settings (R119). -/
inductive Parity where
  | none | even | odd
deriving DecidableEq, Repr

/-- Line settings (R119). `rate` is the rate code of 12.5. -/
structure Settings where
  rate : Fin 3
  parity : Parity
  rxInv : Bool
  txInv : Bool
deriving DecidableEq, Repr

/-- The rate codes in bit/s (12.5). -/
def rateBits : Port → Fin 3 → Nat
  | .floor _, r => [19200, 38400, 57600].getD r.val 0
  | .u, r => [57600, 115200, 230400].getD r.val 0

/-- Power-on settings (R119). -/
def Settings.powerOn : Port → Settings
  | .floor _ => { rate := 2, parity := .even, rxInv := false, txInv := false }
  | .u => { rate := 1, parity := .even, rxInv := false, txInv := false }

/-- A received character with its data bits and whether it carries a mark (R120). -/
structure RxChar where
  data : Byte
  marked : Bool
deriving DecidableEq, Repr

/-- Receiver states (R119). ASSEMBLING holds the characters received since, and with, the start
character. DOWN is the receiver of a floor port whose link is DOWN. -/
inductive RxState where
  | hunting
  | assembling (chars : List RxChar)
  | broken
  | down
deriving DecidableEq, Repr

/-- Transmitter states (R119). `reply`: the frame is the management reply owed on the port. -/
inductive TxState where
  | idle
  | sending (f : Frame) (reply : Bool)
deriving DecidableEq, Repr

/-- The counters of R135. -/
structure LineCounters where
  framesReceived : Nat
  damaged : Nat
  truncated : Nat
  malformed : Nat
  noise : Nat
  parityError : Nat
  framingError : Nat
  breaks : Nat
  framesSent : Nat
  transmitAbort : Nat
  replyDropped : Nat
deriving DecidableEq, Repr

/-- Every counter of R135 at 0. -/
def LineCounters.zero : LineCounters :=
  { framesReceived := 0, damaged := 0, truncated := 0, malformed := 0, noise := 0,
    parityError := 0, framingError := 0, breaks := 0, framesSent := 0, transmitAbort := 0,
    replyDropped := 0 }

/-- The router's counters (R138). -/
structure RouterCounters where
  misdirected : Nat
  unknownKind : Nat
  requestOverrun : Nat
  downwardDrop : Nat
deriving DecidableEq, Repr

/-- Every router counter at 0. -/
def RouterCounters.zero : RouterCounters :=
  { misdirected := 0, unknownKind := 0, requestOverrun := 0, downwardDrop := 0 }

/-- One port: its line state (R119) and the router's state for it (R138). The downward queue and the
reply hold belong to floor ports; U's `owed` is the turn controller's reply owed (R155), and
`settingsReply` says that the reply to the WRITE that set U's waiting settings is still owed (R134).
`partWay`: the receiver is part way through a character (R119). `rxTurned`: the receive inversion has
changed since the receiver last received a character (R134), so that the line's last level stood as the
other state before the change (R122, R124; log 29). -/
structure PortRec where
  inForce : Settings
  waiting : Option Settings
  rx : RxState
  partWay : Bool
  rxTurned : Bool
  held : Option RxBits
  buffer : Option Frame
  tx : TxState
  count : LineCounters
  router : RouterCounters
  downward : List Frame
  hold : Option Frame
  owed : Bool
  settingsReply : Bool
deriving DecidableEq, Repr

/-- A port at power-on; `dark`: its loss-of-signal input is asserted (R136, R153). -/
def PortRec.powerOn (p : Port) (dark : Bool) : PortRec :=
  { inForce := Settings.powerOn p, waiting := none, rx := if dark then .down else .hunting,
    partWay := false, rxTurned := false, held := none, buffer := none, tx := .idle, count := .zero,
    router := .zero, downward := [], hold := none, owed := false, settingsReply := false }

/-! ### Uplink (chapter 9) -/

/-- Turn states (R155). -/
inductive TurnState where
  | listen | replying | turn
deriving DecidableEq, Repr

/-- What a reply answers: a U request, the RESTART, a POLL by a slot's REPORT, a POLL by a status. -/
inductive ReplySource where
  | mgmt | restart | pollReport (slot : Fin 16) | pollStatus
deriving DecidableEq, Repr

/-- A reply in the reply list (R155). -/
structure Reply where
  frame : Frame
  source : ReplySource
deriving DecidableEq, Repr

/-- The source of a frame committed to U (R160). A RELEASE remembers the silence-seen flag it
carries (R161). -/
inductive TxSource where
  | reply (r : ReplySource)
  | slot (i : Fin 16)
  | forward
  | release (silenceSeen : Bool)
deriving DecidableEq, Repr

/-- A frame handed to U (R155). -/
structure Committed where
  frame : Frame
  source : TxSource
deriving DecidableEq, Repr

/-- The turn controller (R155). -/
structure Turn where
  state : TurnState
  replies : List Reply
  withU : Option Committed
  budget : Nat
  sent : Nat
  run : Nat
  tag : Byte
  silence : Nat
  silent : Bool
  silenceSeen : Bool
  fq : List Frame
  collisions : Nat
  requestOverrun : Nat
  forwardDrop : Nat
deriving DecidableEq, Repr

/-- The turn controller at power-on (R170). -/
def Turn.powerOn : Turn :=
  { state := .listen, replies := [], withU := none, budget := 0, sent := 0, run := 0, tag := 0,
    silence := 0, silent := false, silenceSeen := false, fq := [], collisions := 0,
    requestOverrun := 0, forwardDrop := 0 }

/-! ### Management (chapter 10) -/

/-- The request the engine holds (R172). -/
structure Request where
  port : Port
  tag : Byte
  srcNode : BitVec 6
  level : Nat
  payload : List Byte
deriving DecidableEq, Repr

/-- The management engine (R172). -/
inductive Engine where
  | idle
  | serving (q : Request) (reply : Frame)
  | committing (q : Request)
  | restarting (q : Request)
deriving DecidableEq, Repr

/-- The unit configuration record (R186); the line settings in the order F0, F1, F2, F3, U. -/
structure UnitConfig where
  epochLength : Nat
  silenceLimit : Nat
  lines : Tbl 5 Settings
deriving DecidableEq, Repr

/-- The line settings of the configuration record at power-on (R186). -/
def linesPowerOn : Tbl 5 Settings :=
  ⟨[Settings.powerOn (.floor .f0), Settings.powerOn (.floor .f1), Settings.powerOn (.floor .f2),
    Settings.powerOn (.floor .f3), Settings.powerOn .u], rfl⟩

/-- The configuration record at power-on (R186). -/
def UnitConfig.powerOn : UnitConfig :=
  { epochLength := 60, silenceLimit := 10, lines := linesPowerOn }

/-! ### The part as a whole (chapter 11) -/

/-- Whether the part runs, is held in reset, or has no supply (R190, R191). -/
inductive Power where
  | running | inReset | unpowered
deriving DecidableEq, Repr

/-- Input levels: LOS0 to LOS3 and COMMISSION, `true` for asserted (11.3). -/
structure Pins where
  los : Tbl 4 Bool
  commission : Bool
deriving DecidableEq, Repr

/-- What a step has brought about and no step has yet carried out, beyond what the other state shows:
the entry into SILENT and the RESTART taking effect (log 1). -/
structure Due where
  silence : Bool
  restart : Bool
deriving DecidableEq, Repr

end Sys2Proof.Machine
end

