-- ==== Sys2Proof/Machine/State.lean ====
section
/-! DEFINITION. The state of the part, the reasons a step can stop, and the state after reset. -/

namespace Sys2Proof.Machine

/-- Faults. No rule of the spec stops the part, and no meaning raises a fault. -/
inductive Fault where
  /-- Raised by no meaning: the spec names no event that stops the part. Safe. -/
  | none
deriving DecidableEq, Repr

/-- Refusals. -/
inductive Refusal where
  /-- Raised by `exec` alone, for a command that has no meaning in the model yet. Safe. -/
  | notModelled (mnemonic : String)
deriving DecidableEq, Repr

/-- The state of the part, block by block (INVENTORY.md, "State"). -/
structure State where
  power : Power
  pins : Pins
  unitNo : BitVec 4
  ports : Tbl 5 PortRec
  sdt : Tbl 256 Descriptor
  svt : Svt
  evalQueue : List SampleJob
  zoneClose : Tbl 32 (Option Snapshot)
  job : Option Job
  zones : Tbl 32 Zone
  epochCount : Nat
  surfaces : Tbl 64 Surface
  thr : Tbl 8 ThrSet
  slots : Tbl 16 Slot
  alarmLoss : Bool
  counters : UnitCounters
  turn : Turn
  mgmt : Engine
  config : UnitConfig
  condense : Bool
  due : Due
  pending : List Instr
deriving DecidableEq, Repr

/-- Every block at its power-on values, for given pins and unit number, before the START event
(R191, steps 1 to 3). The queue of commands is not a block's state and is given. -/
def State.powerOnValues (pins : Pins) (unitNo : BitVec 4) (pending : List Instr) : State :=
  { power := .running
    pins := pins
    unitNo := unitNo
    ports :=
      ⟨[PortRec.powerOn (.floor .f0) (pins.los.get 0), PortRec.powerOn (.floor .f1) (pins.los.get 1),
        PortRec.powerOn (.floor .f2) (pins.los.get 2), PortRec.powerOn (.floor .f3) (pins.los.get 3),
        PortRec.powerOn .u false], rfl⟩
    sdt := Tbl.fill 256 .powerOn
    svt := .powerOn
    evalQueue := []
    zoneClose := Tbl.fill 32 none
    job := none
    zones := Tbl.fill 32 .powerOn
    epochCount := 0
    surfaces := Tbl.fill 64 .powerOn
    thr := Tbl.fill 8 .factory
    slots := slotsPowerOn
    alarmLoss := false
    counters := .zero
    turn := .powerOn
    mgmt := .idle
    config := .powerOn
    condense := false
    due := { silence := false, restart := false }
    pending := pending }

/-- The pins at reset: every loss-of-signal input and COMMISSION released (DESIGN CHOICE, log 6). -/
def Pins.released : Pins := { los := Tbl.fill 4 false, commission := false }

/-- The part right after the power-on sequence, with straps 0 and the pins released (DESIGN CHOICE,
log 6): every block at its power-on values and the COLD START event in slot 15 (R117, R191). -/
def State.reset : State :=
  { State.powerOnValues .released 1 [] with
    slots := slotsPowerOn.set 15
      { Slot.idle with
        binding := .slot15, state := .pending,
        entries := [.start 1 false 0 true] } }

end Sys2Proof.Machine
end

