-- ==== Sys2Proof/Machine/Ops.lean ====
section
/-! DEFINITION. Reading and updating the state: one setter per field of `State`, and the accessors of
ports, descriptors, surfaces, zones and slots that every block goes through. -/

namespace Sys2Proof.Machine

/-! ### One setter per field -/

/-- Replace `power`. -/
def State.setPower (s : State) (v : Power) : State := { s with power := v }

/-- Replace `pins`. -/
def State.setPins (s : State) (v : Pins) : State := { s with pins := v }

/-- Replace `unitNo`. -/
def State.setUnitNo (s : State) (v : BitVec 4) : State := { s with unitNo := v }

/-- Replace `ports`. -/
def State.setPorts (s : State) (v : Tbl 5 PortRec) : State := { s with ports := v }

/-- Replace `sdt`. -/
def State.setSdt (s : State) (v : Tbl 256 Descriptor) : State := { s with sdt := v }

/-- Replace `svt`. -/
def State.setSvt (s : State) (v : Svt) : State := { s with svt := v }

/-- Replace `evalQueue`. -/
def State.setEvalQueue (s : State) (v : List SampleJob) : State := { s with evalQueue := v }

/-- Replace `zoneClose`. -/
def State.setZoneClose (s : State) (v : Tbl 32 (Option Snapshot)) : State := { s with zoneClose := v }

/-- Replace `job`. -/
def State.setJob (s : State) (v : Option Job) : State := { s with job := v }

/-- Replace `zones`. -/
def State.setZones (s : State) (v : Tbl 32 Zone) : State := { s with zones := v }

/-- Replace `epochCount`. -/
def State.setEpochCount (s : State) (v : Nat) : State := { s with epochCount := v }

/-- Replace `surfaces`. -/
def State.setSurfaces (s : State) (v : Tbl 64 Surface) : State := { s with surfaces := v }

/-- Replace `thr`. -/
def State.setThr (s : State) (v : Tbl 8 ThrSet) : State := { s with thr := v }

/-- Replace `slots`. -/
def State.setSlots (s : State) (v : Tbl 16 Slot) : State := { s with slots := v }

/-- Replace `alarmLoss`. -/
def State.setAlarmLoss (s : State) (v : Bool) : State := { s with alarmLoss := v }

/-- Replace `counters`. -/
def State.setCounters (s : State) (v : UnitCounters) : State := { s with counters := v }

/-- Replace `turn`. -/
def State.setTurn (s : State) (v : Turn) : State := { s with turn := v }

/-- Replace `mgmt`. -/
def State.setMgmt (s : State) (v : Engine) : State := { s with mgmt := v }

/-- Replace `config`. -/
def State.setConfig (s : State) (v : UnitConfig) : State := { s with config := v }

/-- Replace `condense`. -/
def State.setCondense (s : State) (v : Bool) : State := { s with condense := v }

/-- Replace `due`. -/
def State.setDue (s : State) (v : Due) : State := { s with due := v }

/-- Replace `pending`. -/
def State.setPending (s : State) (v : List Instr) : State := { s with pending := v }

/-! ### Indices -/

/-- The floor port with an index 0 to 3. -/
def floorIdx : FloorPort → Fin 4
  | .f0 => 0 | .f1 => 1 | .f2 => 2 | .f3 => 3

/-- F0 to F3 in ascending order. -/
def floorPorts : List FloorPort := [.f0, .f1, .f2, .f3]

/-- Port numbers: 0 to 3 for F0 to F3, 4 for U (R135). -/
def portIdx : Port → Fin 5
  | .floor p => (floorIdx p).castSucc
  | .u => 4

/-- The port with a number 0 to 4. -/
def portOfIdx : Fin 5 → Port
  | 0 => .floor .f0 | 1 => .floor .f1 | 2 => .floor .f2 | 3 => .floor .f3 | 4 => .u

/-- The scope that names a floor port (R139). -/
def floorScope : FloorPort → Scope
  | .f0 => .f0 | .f1 => .f1 | .f2 => .f2 | .f3 => .f3

/-- The selector of a node on a floor port: port index × 64 + node (R140). -/
def floorSelector (p : FloorPort) (node : BitVec 6) : Selector :=
  (BitVec.ofFin (w := 2) (floorIdx p) ++ node : BitVec 8)

/-- The floor port of a selector. -/
def selectorPort (sel : Selector) : FloorPort :=
  match (sel.extractLsb' 6 2).toNat with
  | 0 => .f0 | 1 => .f1 | 2 => .f2 | _ => .f3

/-- The node of a selector. -/
def selectorNode (sel : Selector) : BitVec 6 := sel.extractLsb' 0 6

/-- A selector with node 0 names no sensor (R1). -/
def selectorNull (sel : Selector) : Bool := decide (selectorNode sel = 0)

/-! ### Accessors -/

/-- The record of a port. -/
def State.port (s : State) (p : Port) : PortRec := s.ports.get (portIdx p)

/-- Replace the record of a port. -/
def State.setPort (s : State) (p : Port) (r : PortRec) : State := s.setPorts (s.ports.set (portIdx p) r)

/-- Change the record of a port. -/
def State.updPort (s : State) (p : Port) (f : PortRec → PortRec) : State :=
  s.setPort p (f (s.port p))

/-- Change the line counters of a port. -/
def State.countLine (s : State) (p : Port) (f : LineCounters → LineCounters) : State :=
  s.updPort p fun r => { r with count := f r.count }

/-- Change the router counters of a port. -/
def State.countRouter (s : State) (p : Port) (f : RouterCounters → RouterCounters) : State :=
  s.updPort p fun r => { r with router := f r.router }

/-- The descriptor of a selector (R1). The four null selectors hold a VACANT entry that no rule writes
(log 7). -/
def State.desc (s : State) (sel : Selector) : Descriptor := s.sdt.get sel.toFin

/-- Replace a descriptor. -/
def State.setDesc (s : State) (sel : Selector) (d : Descriptor) : State :=
  s.setSdt (s.sdt.set sel.toFin d)

/-- Change a descriptor. -/
def State.updDesc (s : State) (sel : Selector) (f : Descriptor → Descriptor) : State :=
  s.setDesc sel (f (s.desc sel))

/-- A surface record. -/
def State.surface (s : State) (i : Fin 64) : Surface := s.surfaces.get i

/-- Replace a surface record. -/
def State.setSurface (s : State) (i : Fin 64) (r : Surface) : State :=
  s.setSurfaces (s.surfaces.set i r)

/-- A zone record. -/
def State.zone (s : State) (z : Fin 32) : Zone := s.zones.get z

/-- Replace a zone record. -/
def State.setZone (s : State) (z : Fin 32) (r : Zone) : State := s.setZones (s.zones.set z r)

/-- Change a zone record. -/
def State.updZone (s : State) (z : Fin 32) (f : Zone → Zone) : State := s.setZone z (f (s.zone z))

/-- A report slot. -/
def State.slot (s : State) (i : Fin 16) : Slot := s.slots.get i

/-- Replace a report slot. -/
def State.setSlot (s : State) (i : Fin 16) (r : Slot) : State := s.setSlots (s.slots.set i r)

/-- Change the turn controller. -/
def State.updTurn (s : State) (f : Turn → Turn) : State := s.setTurn (f s.turn)

/-- Change the unit counters. -/
def State.count (s : State) (f : UnitCounters → UnitCounters) : State := s.setCounters (f s.counters)

/-- A floor port is UP unless its receiver is DOWN (R119, R132). -/
def PortRec.up (r : PortRec) : Bool := decide (r.rx ≠ .down)

/-- The part runs: it is neither unpowered nor held in reset (R190, R191). -/
def State.running (s : State) : Bool := decide (s.power = .running)

/-- The zones whose job waits in the zone-close list, in ascending order (R39, R41). -/
def State.closing (s : State) : List (Fin 32) := s.zoneClose.indices Option.isSome

/-- The number of slots that are PENDING (R161). -/
def State.pendingSlots (s : State) : Nat :=
  (s.slots.indices fun r => decide (r.state = .pending)).length

/-- The CONDENSE pin: conducting while the line is ASSERTED, off while the part is unpowered or held
in reset (R190). -/
def State.condensePin (s : State) : Bool := s.running && s.condense

/-- The UDIR output: driving while U transmits a frame (R131, 11.3). -/
def State.udir (s : State) : Bool := s.running && decide ((s.port .u).tx ≠ .idle)

end Sys2Proof.Machine
end

