-- ==== Sys2Proof/Machine/Codes.lean ====
section
/-! DEFINITION. The codes of R193 (12.1), both ways where the part reads them. -/

namespace Sys2Proof.Machine

/-- Sensor kind codes. -/
def SensorKind.code : SensorKind → Nat
  | .air => 1 | .surface => 2 | .wetness => 3

/-- A sensor kind code; 0 names no kind. -/
def SensorKind.ofCode : Nat → Option SensorKind
  | 1 => some .air | 2 => some .surface | 3 => some .wetness | _ => none

/-- Sensor state codes. -/
def SensorState.code : SensorState → Nat
  | .vacant => 0 | .awaiting => 1 | .live => 2 | .stale => 3 | .suspect => 4

/-- Grade codes. -/
def Grade.code : Grade → Nat
  | .blind => 0 | .clear => 1 | .watch => 2 | .alert => 3 | .wet => 4

/-- Worst grade codes; NONE is 7. -/
def worstCode : Option (Grade × Fin 64) → Nat
  | none => 7
  | some (g, _) => g.code

/-- Dew-point source codes; absent is 0. -/
def sourceCode : Option Source → Nat
  | none => 0 | some .air => 1 | some .fallback => 2

/-- Zone result codes. -/
def ZoneResult.code : ZoneResult → Nat
  | .none => 0 | .valid _ _ => 1 | .saturated => 2

/-- Slot state codes. -/
def SlotState.code : SlotState → Nat
  | .idle => 0 | .empty => 1 | .collecting => 2 | .pending => 3 | .sending => 4

/-- Turn state codes. -/
def TurnState.code : TurnState → Nat
  | .listen => 0 | .replying => 1 | .turn => 2

/-- Shadow state codes. -/
def ShadowState.code : ShadowState → Nat
  | .previous => 0 | .dirty => 1

/-- Wet value codes. -/
def Wet.code : Wet → Nat
  | .dry => 0 | .water => 1

/-- Link codes. -/
def LinkCode.code : LinkCode → Nat
  | .lost => 1 | .restored => 2 | .silence => 3 | .silenceEnd => 4

/-- Forward mode codes. -/
def ForwardMode.code : ForwardMode → Nat
  | .off => 0 | .raw => 1 | .enriched => 2 | .changed => 3

/-- A forward mode code; 4 to 15 name no mode. -/
def ForwardMode.ofCode : Nat → Option ForwardMode
  | 0 => some .off | 1 => some .raw | 2 => some .enriched | 3 => some .changed | _ => none

/-- Parity codes. -/
def Parity.code : Parity → Nat
  | .none => 0 | .even => 1 | .odd => 2

/-- A parity code; 3 names no parity. -/
def Parity.ofCode : Nat → Option Parity
  | 0 => some .none | 1 => some .even | 2 => some .odd | _ => none

/-- Slot mode codes. -/
def SlotMode.code : SlotMode → Nat
  | .single => 0 | .batch => 1

/-- A slot mode code; 2 and 3 name neither mode. -/
def SlotMode.ofCode : Nat → Option SlotMode
  | 0 => some .single | 1 => some .batch | _ => none

/-- The management commands (10.2). -/
inductive Command where
  | read | write | exchange | svtLoad | svtCommit | query | clear | restart
deriving DecidableEq, Repr

/-- Command codes; 0 and codes above 8 name no command. -/
def Command.ofCode : Nat → Option Command
  | 1 => some .read | 2 => some .write | 3 => some .exchange | 4 => some .svtLoad
  | 5 => some .svtCommit | 6 => some .query | 7 => some .clear | 8 => some .restart | _ => none

/-- The management tables (10.4). -/
inductive Table where
  | sdt | svtActive | svtShadow | sft | thr | zone | slot | config
deriving DecidableEq, Repr

/-- Table codes. -/
def Table.ofCode : Nat → Option Table
  | 1 => some .sdt | 2 => some .svtActive | 3 => some .svtShadow | 4 => some .sft
  | 5 => some .thr | 6 => some .zone | 7 => some .slot | 8 => some .config | _ => none

/-- Query subjects (10.6). -/
inductive Subject where
  | sensor | surface | zone | slot | port | unit
deriving DecidableEq, Repr

/-- Query subject codes. -/
def Subject.ofCode : Nat → Option Subject
  | 1 => some .sensor | 2 => some .surface | 3 => some .zone | 4 => some .slot | 5 => some .port
  | 6 => some .unit | _ => none

/-- Clear targets (10.7). -/
inductive Target where
  | counters | accessed | slotFlags | surfaceCounts | zoneFlags | alarm
deriving DecidableEq, Repr

/-- Clear target codes. -/
def Target.ofCode : Nat → Option Target
  | 1 => some .counters | 2 => some .accessed | 3 => some .slotFlags | 4 => some .surfaceCounts
  | 5 => some .zoneFlags | 6 => some .alarm | _ => none

/-- Reply statuses (R178). -/
inductive Status where
  | ok | busy | denied | badTable | badIndex | badValue | illegalForm | notCommitted | malformed
  | nothing | deferred
deriving DecidableEq, Repr

/-- Status codes. -/
def Status.code : Status → Byte
  | .ok => 0 | .busy => 1 | .denied => 2 | .badTable => 3 | .badIndex => 4 | .badValue => 5
  | .illegalForm => 6 | .notCommitted => 7 | .malformed => 8 | .nothing => 9 | .deferred => 10

/-- The header of a frame the part originates: from the part itself, RPL 0 (12.2). -/
def ownEnvelope (own : BitVec 4) (dstScope : Scope) (dstNode : BitVec 6) (tag : Byte) : Envelope :=
  { dstUnit := 0, dstScope := dstScope, dstNode := dstNode, srcUnit := own, srcScope := .unit,
    srcNode := 0, rpl := 0, tag := tag }

end Sys2Proof.Machine
end

