-- ==== Sys2Proof/Machine/Flags.lean ====
section
/-! DEFINITION. Every flag the part computes: the correction flags of a sample (R9, R10), and the flag
and mark bytes of ENRICHED frames, entries and QUERY records (12.4, 12.5). -/

namespace Sys2Proof.Machine

/-- Corrected temperature and CLAMPED (R9). -/
def correctT (raw offset : Int) : Int × Bool :=
  let sum := raw + offset
  (clampTo (-4000) 8500 sum, !inRange (-4000) 8500 sum)

/-- The gain step of R10, rounding half up. -/
def gainStep (raw g : Nat) : Nat := (raw * g + 2048) / 4096

/-- Corrected humidity, SATURATED and CLAMPED (R10). -/
def correctRh (raw g : Nat) (offset : Int) : Nat × Bool × Bool :=
  let sum : Int := (gainStep raw g : Int) + offset
  ((clampTo 0 10000 sum).toNat, decide (10000 < sum), decide (sum < 0))

/-- The flags byte of an ENRICHED frame: CLAMPED, SATURATED, BELOW_TABLE, UNEVALUATED, REJECTED
(12.4). -/
def Descriptor.flags (d : Descriptor) (rejected : Bool) : Byte :=
  flagByte [d.clamped, d.saturated, d.belowTable, d.unevaluated, rejected]

/-- The marks byte of an ENRICHED frame: T, RH, e-and-Td, wet, Td_eff, margin (12.4). -/
def marks (t rh air wet tdEff margin : Bool) : Byte := flagByte [t, rh, air, wet, tdEff, margin]

/-- The flags byte of a QUERY SENSOR record (12.5). -/
def Descriptor.queryFlags (d : Descriptor) : Byte :=
  flagByte [d.clamped, d.saturated, d.belowTable, d.unevaluated, d.accessed]

/-- The marks byte of a QUERY SENSOR record (12.5). -/
def Descriptor.queryMarks (d : Descriptor) : Byte :=
  flagByte [d.lastT.isSome, d.lastRh.isSome, d.lastAir.isSome, d.lastWet.isSome, d.forwarded.isSome]

/-- The flags byte of a RELEASE: silence-seen, alarm-loss latch, CONDENSE asserted (R161, 12.4). -/
def State.releaseFlags (s : State) : Byte := flagByte [s.turn.silenceSeen, s.alarmLoss, s.condense]

/-- The flags byte of a QUERY UNIT record (12.5). -/
def State.unitFlags (s : State) : Byte :=
  flagByte [s.pins.commission, s.turn.silent, s.turn.silenceSeen, s.alarmLoss, s.condense]

end Sys2Proof.Machine
end

