-- ==== Sys2Proof/Machine/Operands.lean ====
section
/-! DEFINITION. Reading what frames carry: sample payloads (R3, R7, R8, R11) and the entries of WRITE
and EXCHANGE requests (12.5), with the write forms the part sends back. -/

namespace Sys2Proof.Machine

/-! ### Samples -/

/-- The raw values of a sample in hundredths, or a wet value (R3, R11). -/
inductive Raw where
  | air (t : Int) (rh : Nat)
  | surface (t : Int)
  | wetness (w : Wet)
deriving DecidableEq, Repr

/-- What a sample payload is to a descriptor: a format reject (R7), a FAULT (R8), or a reading. -/
inductive SampleForm where
  | format
  | fault
  | reading (r : Raw)
deriving DecidableEq, Repr

/-- The status byte of a current payload: the kind code is checked first, then FAULT (R7, R8). -/
def statusForm (status : Byte) (k : SensorKind) (r : Raw) : SampleForm :=
  if (status.extractLsb' 0 2).toNat ≠ k.code then .format
  else if status.msb then .fault
  else .reading r

/-- Read a sample payload by the descriptor's kind and form (R3, R7, R8, R11). -/
def readSample (c : SensorConfig) (payload : List Byte) : SampleForm :=
  match c.kind, decide (c.ext = 0), payload with
  | .air, true, [a, b, x, y] => .reading (.air (int16 a b * 10) (nat16 x y * 10))
  | .air, false, [st, a, b, x, y] => statusForm st .air (.air (int16 a b) (nat16 x y))
  | .surface, true, [a, b] => .reading (.surface (int16 a b * 10))
  | .surface, false, [st, a, b] => statusForm st .surface (.surface (int16 a b))
  | .wetness, _, [st, v] =>
    statusForm st .wetness (.wetness (if v = 0 then .dry else .water))
  | _, _, _ => .format

/-- The gain of an AIR descriptor: 4096 for a legacy entry (R3). -/
def SensorConfig.gain (c : SensorConfig) : Nat := if c.ext = 0 then 4096 else c.ext.toNat

/-! ### SDT entries -/

/-- The extension word a kind admits (R4). -/
def extValid (k : SensorKind) (ext : BitVec 16) : Bool :=
  match k with
  | .air => decide (ext = 0) || (decide (2048 ≤ ext.toNat) && decide (ext.toNat ≤ 6144))
  | .surface => true
  | .wetness => decide (ext ≠ 0)

/-- The checks of R4 on a present entry, the stored staleness limit being 1 to 3600. -/
def SensorConfig.valid (c : SensorConfig) : Bool :=
  decide (1 ≤ c.deadband) && decide (c.deadband ≤ 255) && extValid c.kind c.ext &&
    inRange (-1000) 1000 c.rhOffset && inRange (-500) 500 c.tOffset && decide (-4000 ≤ c.tLo) &&
    decide (c.tLo < c.tHi) && decide (c.tHi ≤ 8500) && decide (1 ≤ c.staleLimit) &&
    decide (c.staleLimit ≤ 3600)

/-- A written SDT entry (12.5): `none` is refused with BAD_VALUE (R4, R194), `some none` makes the
entry VACANT, and a written staleness limit of 0 is stored as 120. -/
def readSdtEntry : List Byte → Option (Option SensorConfig)
  | [b0, b1, b2, b3, b4, b5, b6, b7, b8, b9, b10, b11, b12, b13, b14, b15] =>
    if b0.extractLsb' 2 4 ≠ 0 then none
    else if b0.msb = false then some none
    else
      match SensorKind.ofCode (b0.extractLsb' 0 2).toNat,
        ForwardMode.ofCode (b2.extractLsb' 0 4).toNat with
      | some kind, some mode =>
        if hz : b1.toNat < 32 then
          let c : SensorConfig :=
            { kind := kind, zone := ⟨b1.toNat, hz⟩, weight := (b2.extractLsb' 4 4).toFin,
              mode := mode, deadband := b3.toNat, reportEnable := b0.getLsbD 6, ext := b4 ++ b5,
              rhOffset := int16 b6 b7, tOffset := int16 b8 b9, tLo := int16 b10 b11,
              tHi := int16 b12 b13,
              staleLimit := if nat16 b14 b15 = 0 then 120 else nat16 b14 b15 }
          if c.valid then some (some c) else none
        else none
      | _, _ => none
  | _ => none

/-- The write form of an SDT entry; a VACANT entry reads as all zero (R23, 12.5). -/
def sdtWriteForm : Option SensorConfig → List Byte
  | none => List.replicate 16 0
  | some c =>
    [u8 (128 + bit c.reportEnable * 64 + c.kind.code), u8 c.zone.val,
      u8 (c.weight.val * 16 + c.mode.code), u8 c.deadband] ++ u16 c.ext.toNat ++ i16 c.rhOffset ++
      i16 c.tOffset ++ i16 c.tLo ++ i16 c.tHi ++ u16 c.staleLimit

/-! ### SFT entries -/

/-- A wetness selector whose node is 0 is absent (R77). -/
def wetnessOf (b : Byte) : Option Selector := if selectorNull b then none else some b

/-- The associated list R80 admits: 1 to 4 selectors, none null, no two equal. -/
def assocValid (l : List Selector) : Bool :=
  decide (1 ≤ l.length) && decide (l.length ≤ 4) && (l.all fun x => !selectorNull x) &&
    decide l.Nodup

/-- A written SFT entry (12.5), with the checks of R80 that look at the entry alone: `none` is refused
with BAD_VALUE, `some none` takes the record out of use. -/
def readSftEntry : List Byte → Option (Option SurfaceConfig)
  | [b0, b1, b2, b3, b4, b5, a0, a1, a2, a3] =>
    if b0.extractLsb' 0 6 ≠ 0 then none
    else if b0.msb = false then some none
    else if hz : b1.toNat < 32 then
      if ht : b2.toNat < 8 then
        let assoc := [a0, a1, a2, a3].take b5.toNat
        if b5.toNat ≤ 4 ∧ assocValid assoc ∧ selectorNull b3 = false then
          some (some
            { probe := b3, zone := ⟨b1.toNat, hz⟩, thr := ⟨b2.toNat, ht⟩,
              reportEnable := b0.getLsbD 6, assoc := assoc, wetness := wetnessOf b4 })
        else none
      else none
    else none
  | _ => none

/-- The write form of an SFT entry (12.5): positions beyond the associated count are the null
selector. -/
def sftWriteForm : Option SurfaceConfig → List Byte
  | none => List.replicate 10 0
  | some c =>
    [u8 (128 + bit c.reportEnable * 64), u8 c.zone.val, u8 c.thr.val, c.probe, c.wetness.getD 0,
      u8 c.assoc.length] ++ (c.assoc ++ List.replicate 4 0).take 4

/-! ### THR, ZONE, SLOT and CONFIG entries -/

/-- The ranges and the order every threshold set holds (R79). -/
def ThrSet.valid (t : ThrSet) : Bool :=
  inRange (-1000) 2000 t.watch && inRange (-1000) 2000 t.alert && inRange (-1000) 2000 t.wet &&
    decide (t.alert < t.watch) && decide (t.wet < t.alert) && decide (t.hyst ≤ 200) &&
    decide (1 ≤ t.dwell) && decide (t.dwell ≤ 15)

/-- A written threshold set; `none` is refused with BAD_VALUE (R79). -/
def readThrEntry : List Byte → Option ThrSet
  | [b0, b1, b2, b3, b4, b5, b6, b7] =>
    let t : ThrSet :=
      { watch := int16 b0 b1, alert := int16 b2 b3, wet := int16 b4 b5, hyst := b6.toNat,
        dwell := b7.toNat }
    if t.valid then some t else none
  | _ => none

/-- The write form of a threshold set (12.5). -/
def thrWriteForm (t : ThrSet) : List Byte :=
  i16 t.watch ++ i16 t.alert ++ i16 t.wet ++ [u8 t.hyst, u8 t.dwell]

/-- A written zone configuration, summary-report and fallback enable; a reserved bit set is refused
with BAD_VALUE (R180). -/
def readZoneEntry : List Byte → Option (Bool × Bool)
  | [b] => if b.extractLsb' 2 6 ≠ 0 then none else some (b.getLsbD 0, b.getLsbD 1)
  | _ => none

/-- The write form of a zone configuration (12.5). -/
def zoneWriteForm (z : Zone) : List Byte := [flagByte [z.summary, z.fallback]]

/-- A written slot binding; `none` is refused with BAD_VALUE: a mode code that names no mode, an id
match with a bit clear in the mask (R109), or a reserved bit set (R194). -/
def readSlotEntry : List Byte → Option SlotBinding
  | [b0, b1, b2, b3] =>
    if b0.extractLsb' 5 3 ≠ 0 ∨ b3.extractLsb' 2 4 ≠ 0 ∨ b1 &&& ~~~b2 ≠ 0 then none
    else
      match SlotMode.ofCode (b3.extractLsb' 0 2).toNat with
      | none => none
      | some mode =>
        some
          { kinds := b0.extractLsb' 0 5, idMatch := b1, idMask := b2, mode := mode,
            singleShot := b3.getLsbD 6, inhibit := b3.getLsbD 7 }
  | _ => none

/-- The write form of a slot binding (12.5). -/
def slotWriteForm (b : SlotBinding) : List Byte :=
  [b.kinds.setWidth 8, b.idMatch, b.idMask,
    u8 (b.mode.code + bit b.singleShot * 64 + bit b.inhibit * 128)]

/-- One port's byte of the line-settings entry; `none` where the rate or the parity code names nothing
(R187) or a reserved bit is set (R194). -/
def readSettings (b : Byte) : Option Settings :=
  if b.extractLsb' 6 2 ≠ 0 then none
  else if hr : (b.extractLsb' 0 2).toNat < 3 then
    match Parity.ofCode (b.extractLsb' 2 2).toNat with
    | none => none
    | some parity =>
      some { rate := ⟨(b.extractLsb' 0 2).toNat, hr⟩, parity := parity, rxInv := b.getLsbD 4,
             txInv := b.getLsbD 5 }
  else none

/-- One port's byte of the line-settings entry (12.5). -/
def settingsByte (t : Settings) : Byte :=
  u8 (t.rate.val + t.parity.code * 4 + bit t.rxInv * 16 + bit t.txInv * 32)

/-- A written line-settings entry: F0, F1, F2, F3, U; refused whole if any one part is invalid
(R187). -/
def readLinesEntry : List Byte → Option (Tbl 5 Settings)
  | [b0, b1, b2, b3, b4] =>
    match readSettings b0, readSettings b1, readSettings b2, readSettings b3, readSettings b4 with
    | some s0, some s1, some s2, some s3, some s4 => some ⟨[s0, s1, s2, s3, s4], rfl⟩
    | _, _, _, _, _ => none
  | _ => none

/-- The line-settings entry of the configuration record (12.5). -/
def linesWriteForm (t : Tbl 5 Settings) : List Byte := t.cells.map settingsByte

/-- The entries of an SVT_LOAD, three bytes each (R29, 12.5). -/
def readSvtEntries : List Byte → List SvtEntry
  | a :: b :: c :: rest => svt24 a b c :: readSvtEntries rest
  | _ => []

/-- An SVT entry as it is sent (12.5). -/
def svtForm (e : SvtEntry) : List Byte := u24 e.toNat

end Sys2Proof.Machine
end

