-- ==== Sys2Proof/Machine/Condense.lean ====
section
/-! DEFINITION. The CONDENSE line driver (R189). -/

namespace Sys2Proof.Machine

/-- An in-use surface record whose grade is one of the given grades. -/
def Surface.gradedAs (r : Surface) (gs : List Grade) : Bool := r.config.isSome && gs.contains r.grade

/-- Some in-use surface record holds one of the given grades. -/
def State.anySurface (s : State) (gs : List Grade) : Bool :=
  s.surfaces.cells.any fun r => r.gradedAs gs

/-- The three conditions of R189. -/
def State.condenseDue (s : State) : Bool :=
  s.anySurface [.wet] || s.alarmLoss || (s.turn.silent && s.anySurface [.alert, .wet])

/-- Re-evaluate the CONDENSE line (R189). -/
def State.evalCondense (s : State) : State := s.setCondense s.condenseDue

end Sys2Proof.Machine
end

