-- ==== Sys2Proof/Machine/Reports.lean ====
section
/-! DEFINITION. The report block (chapter 6): events, their entries, placement, sending and its
outcomes. -/

namespace Sys2Proof.Machine

/-! ### Events, subjects and entries -/

/-- The bit of a slot's kinds accepted that stands for an event's kind; the report kind code is one
more (12.1, 12.5). -/
def Event.kindBit : Event → Nat
  | .grade .. => 0 | .zone .. => 1 | .sensor .. => 2 | .link .. => 3 | .start .. => 4

/-- The id of an event (R101). -/
def Event.id : Event → Byte
  | .grade i .. => u8 i.val
  | .zone z .. => u8 z.val
  | .sensor sel .. => sel
  | .link p _ => u8 p.val
  | .start n .. => n.setWidth 8

/-- Two events have the same subject when kind and id are equal (R101). -/
def Event.sameSubject (a b : Event) : Bool := decide (a.kindBit = b.kindBit) && decide (a.id = b.id)

/-- The Td code of a ZONE entry (12.4). -/
def tdCode : ZoneResult → Nat
  | .valid _ td => (td + 4000).toNat
  | .none => 16383
  | .saturated => 16382

/-- Bytes 3 to 5 of a ZONE entry as one field (12.4). -/
def zoneField (result : ZoneResult) (worst : Option (Grade × Fin 64)) : Nat :=
  let surf := match worst with
    | none => 0
    | some (_, i) => i.val
  worstCode worst * 2 ^ 21 + surf * 2 ^ 15 + tdCode result

/-- Byte 0 of an entry: the report kind in bits 7 to 5 (12.4). -/
def kindByte (e : Event) (low : Nat) : Byte := u8 ((e.kindBit + 1) * 32 + low)

/-- The six bytes of an entry in a REPORT frame (12.4). -/
def Event.entry (e : Event) : List Byte :=
  match e with
  | .grade i left entered margin confirmed fallback =>
    [kindByte e 0, u8 i.val, u8 (left.code * 16 + entered.code),
      flagByte [confirmed, fallback, margin.isSome]] ++ i16? margin
  | .zone z result closed worst =>
    kindByte e z.val :: (u16 closed ++ u24 (zoneField result worst))
  | .sensor sel left entered age rejects =>
    [kindByte e 0, sel, u8 (left.code * 16 + entered.code)] ++ u16 age ++ [u8 rejects]
  | .link p code => [kindByte e 0, u8 p.val, u8 code.code, 0, 0, 0]
  | .start n warm gen tablesEmpty =>
    [kindByte e 0, n.setWidth 8, if warm then 2 else 1, gen, flagByte [tablesEmpty], 0]

/-! ### Acceptance and placement -/

/-- A slot accepts an event: it is bound, the kind is accepted, and the masked id equals the match
(R103). -/
def Slot.accepts (r : Slot) (e : Event) : Bool :=
  decide (r.state ≠ .idle) && r.binding.kinds.getLsbD e.kindBit &&
    decide (e.id &&& r.binding.idMask = r.binding.idMatch)

/-- A slot whose entries are unsent (R103). -/
def Slot.unsent (r : Slot) : Bool := decide (r.state = .collecting ∨ r.state = .pending)

/-- The slot holds an unsent entry of an event's subject. -/
def Slot.holds (r : Slot) (e : Event) : Bool := r.unsent && r.entries.any e.sameSubject

/-- A slot that can take a new entry: EMPTY, or COLLECTING with fewer than 7 entries (R105). -/
def Slot.canTake (r : Slot) : Bool :=
  decide (r.state = .empty) ||
    (decide (r.state = .collecting) && decide (r.entries.length < Config.batchSize))

/-- Replace the entry of the event's subject, in its position, and set LOST (R104). -/
def Slot.supersede (r : Slot) (e : Event) : Slot :=
  { r with entries := r.entries.map fun x => if e.sameSubject x then e else x, lost := true }

/-- Take a new entry (R105). -/
def Slot.place (r : Slot) (e : Event) : Slot :=
  if r.state = .empty then
    { r with
      entries := [e]
      state := match r.binding.mode with
        | .single => .pending
        | .batch => .collecting }
  else
    let es := r.entries ++ [e]
    { r with entries := es, state := if es.length < Config.batchSize then .collecting else .pending }

/-- The slot in which R104 finds an unsent entry of the subject. -/
def State.supersedeSlot (s : State) (e : Event) : Option (Fin 16) :=
  (s.slots.indices fun r => r.accepts e && r.holds e).head?

/-- The slot R105 gives the event to. -/
def State.newSlot (s : State) (e : Event) : Option (Fin 16) :=
  (s.slots.indices fun r => r.accepts e && r.canTake).head?

/-- A GRADE event entering ALERT or WET (R106). -/
def Event.alarming : Event → Bool
  | .grade _ _ entered _ _ _ => decide (entered = .alert ∨ entered = .wet)
  | _ => false

/-- The event finds no place: it is counted, and the alarm-loss latch is set for a GRADE event entering
ALERT or WET (R106, R108); the CONDENSE line is re-evaluated then (R189). -/
def State.loseEvent (s : State) (e : Event) : State :=
  let s := s.count fun c => { c with reportLoss := satInc c.reportLoss }
  if e.alarming then (s.setAlarmLoss true).evalCondense else s

/-- Raise a report event: supersede, else a new place, else a loss (R104 to R106). -/
def State.raise (s : State) (e : Event) : State :=
  match s.supersedeSlot e with
  | some i => s.setSlot i ((s.slot i).supersede e)
  | none =>
    match s.newSlot e with
    | some i => s.setSlot i ((s.slot i).place e)
    | none => s.loseEvent e

/-- The flush at epoch expiry: every COLLECTING slot becomes PENDING (R110). -/
def State.flushSlots (s : State) : State :=
  s.setSlots (s.slots.map fun r => if r.state = .collecting then { r with state := .pending } else r)

/-! ### Sending -/

/-- The payload of a slot's REPORT frame (R111, 12.4). -/
def reportPayload (i : Fin 16) (r : Slot) : List Byte :=
  [u8 i.val, flagByte [decide (r.binding.mode = .batch), r.binding.singleShot, r.lost, r.failed],
    u8 r.entries.length] ++ r.entries.flatMap Event.entry

/-- A slot's REPORT frame, with the POLL's tag or 0 (R111). -/
def State.reportFrame (s : State) (i : Fin 16) (tag : Byte) : Frame :=
  { env := ownEnvelope s.unitNo .unit 0 tag, kind := FrameKind.report.code,
    payload := reportPayload i (s.slot i) }

/-- A slot's frame is taken: the slot becomes SENDING (R111). -/
def State.slotTaken (s : State) (i : Fin 16) : State :=
  s.setSlot i { s.slot i with state := .sending }

/-- A slot after its frame was reported sent (R112). -/
def Slot.afterSent (r : Slot) : Slot :=
  { r with state := .empty, entries := [], sent := satInc r.sent, lost := false, failed := false }

/-- The slot's frame was reported sent (R112). -/
def State.slotSent (s : State) (i : Fin 16) : State := s.setSlot i (s.slot i).afterSent

/-- Some slot other than `i` holds an unsent entry of the subject (R114). -/
def State.heldElsewhere (s : State) (i : Fin 16) (e : Event) : Bool :=
  (s.slots.indices fun r => r.holds e).any fun j => decide (j ≠ i)

/-- A slot without single-shot after a collision, given the entries that no other slot holds unsent
(R114). -/
def Slot.afterRetry (r : Slot) (kept : List Event) : Slot :=
  if kept = [] then { r with state := .empty, entries := [], lost := true }
  else { r with state := .pending, entries := kept,
                lost := r.lost || decide (kept.length < r.entries.length) }

/-- The slot keeps what no other slot holds unsent, whatever its single-shot flag (R114, R158). -/
def State.slotRetry (s : State) (i : Fin 16) : State :=
  s.setSlot i ((s.slot i).afterRetry ((s.slot i).entries.filter fun e => !s.heldElsewhere i e))

/-- A collision on the slot's frame (R113, R114). -/
def State.slotCollision (s : State) (i : Fin 16) : State :=
  if (s.slot i).binding.singleShot then
    s.setSlot i { s.slot i with state := .empty, entries := [], failed := true }
  else s.slotRetry i

/-! ### START -/

/-- No descriptor is present and no surface record is in use (R102). -/
def State.tablesEmpty (s : State) : Bool :=
  (s.sdt.cells.all fun d => d.config.isNone) && (s.surfaces.cells.all fun r => r.config.isNone)

/-- Raise and place the START event (R117, R118). -/
def State.raiseStart (s : State) (warm : Bool) : State :=
  s.raise (.start s.unitNo warm s.svt.gen s.tablesEmpty)

/-- The LINK_LOST events of the floor ports that are DOWN, in ascending port order (R136, R137). -/
def State.raiseDark (s : State) : State :=
  floorPorts.foldl (fun s p =>
    if (s.port (.floor p)).up then s else s.raise (.link (floorIdx p).castSucc .lost)) s

end Sys2Proof.Machine
end

