-- ==== Sys2Proof/Machine/QueryRecords.lean ====
section
/-! DEFINITION. What READ and QUERY return: entries in read form and the subjects' records (R179, R183,
12.5). -/

namespace Sys2Proof.Machine

/-! ### Read forms -/

/-- An SDT entry in read form: write form, version, accessed flag (R23). -/
def sdtReadForm (d : Descriptor) : List Byte :=
  sdtWriteForm d.config ++ [d.version, flagByte [d.accessed]]

/-- An SFT entry in read form: write form and version (R98). -/
def sftReadForm (r : Surface) : List Byte := sftWriteForm r.config ++ [r.version]

/-- A CONFIG entry (R186, 12.5). -/
def configForm (c : UnitConfig) : Nat → List Byte
  | 0 => u16 c.epochLength
  | 1 => [u8 c.silenceLimit]
  | _ => linesWriteForm c.lines

/-- The entry of a table at an index, in read form; nothing beyond the table. -/
def State.readForm (s : State) (t : Table) (i : Nat) : List Byte :=
  match t with
  | .sdt => if i < 256 then sdtReadForm (s.desc (BitVec.ofNat 8 i)) else []
  | .svtActive => if h : i < 251 then svtForm (s.svt.active.get ⟨i, h⟩) else []
  | .svtShadow => if h : i < 251 then svtForm (s.svt.shadow.get ⟨i, h⟩) else []
  | .sft => if h : i < 64 then sftReadForm (s.surface ⟨i, h⟩) else []
  | .thr => if h : i < 8 then thrWriteForm (s.thr.get ⟨i, h⟩) else []
  | .zone => if h : i < 32 then zoneWriteForm (s.zone ⟨i, h⟩) else []
  | .slot => if h : i < 16 then slotWriteForm (s.slot ⟨i, h⟩).binding else []
  | .config => configForm s.config i

/-- The number of indices of a table (R179). -/
def Table.size : Table → Nat
  | .sdt => 256 | .svtActive => 251 | .svtShadow => 251 | .sft => 64 | .thr => 8 | .zone => 32
  | .slot => 16 | .config => 3

/-- An index lies within a table; a null selector does not (R1, R179). -/
def Table.hasIndex (t : Table) (i : Nat) : Bool :=
  match t with
  | .sdt => decide (i < 256) && decide (i % 64 ≠ 0)
  | _ => decide (i < t.size)

/-- Entries from an index to the end of the table, or to the next null selector (R179). -/
def Table.remaining (t : Table) (i : Nat) : Nat :=
  match t with
  | .sdt => 64 - i % 64
  | _ => t.size - i

/-- The most entries a reply holds (R179). -/
def Table.mostPerReply : Table → Nat
  | .sdt => 2 | .svtActive => 14 | .svtShadow => 14 | .sft => 4 | .thr => 5 | .zone => 32
  | .slot => 11 | .config => 3

/-- The number of entries a READ returns (R179). -/
def Table.readCount (t : Table) (i count : Nat) : Nat := min count (min t.mostPerReply (t.remaining i))

/-- The entries a READ returns (R179). -/
def State.readEntries (s : State) (t : Table) (i n : Nat) : List Byte :=
  (List.range n).flatMap fun k => s.readForm t (i + k)

/-! ### QUERY records -/

/-- The forwarded reference in a SENSOR record: form, state, surface index, compared value, grade
(12.5). -/
def refForm : Option ForwardRef → List Byte
  | none => List.replicate 6 0
  | some r =>
    match r.value with
    | .air td => [1, u8 r.state.code, 0] ++ i16? td ++ [0]
    | .surfaceFull i g m => [2, u8 r.state.code, u8 i.val] ++ i16? m ++ [u8 g.code]
    | .surfaceDetached => [3, u8 r.state.code, 0, 0, 0, 0]
    | .wetness w => [4, u8 r.state.code, 0] ++ u16 ((w.map Wet.code).getD 0) ++ [0]

/-- A SENSOR record, 28 bytes (R23, 12.5). -/
def sensorRecord (d : Descriptor) : List Byte :=
  [u8 d.state.code] ++ u16 d.age ++ [u8 d.rejects, d.queryFlags, d.queryMarks] ++ i16? d.lastT
    ++ u16 (d.lastRh.getD 0) ++ u24 ((d.lastAir.map AirResult.e).getD 0)
    ++ i16? (d.lastAir.map AirResult.td)
    ++ [(d.lastAir.map AirResult.gen).getD 0, u8 ((d.lastWet.map Wet.code).getD 0), d.version]
    ++ refForm d.forwarded ++ u16 d.formatRejects ++ u16 d.plausibilityRejects

/-- A SURFACE record, 9 bytes (R98, 12.5). -/
def surfaceRecord (r : Surface) : List Byte :=
  [u8 (bit r.config.isSome), u8 r.grade.code,
    u8 (sourceCode r.source + bit r.margin.isSome * 64 + bit r.confirmed * 128)] ++ i16? r.margin
    ++ [u8 r.dwell] ++ u16 r.changes ++ [r.version]

/-- The e_zone and Td_zone of a result; 0 where it is not VALID. -/
def zoneResultForm : ZoneResult → List Byte
  | .valid e td => u24 e ++ i16 td
  | .none => [0, 0, 0, 0, 0]
  | .saturated => [0, 0, 0, 0, 0]

/-- A ZONE record, 22 bytes (R74, 12.5). -/
def zoneRecord (r : Zone) (waiting : Bool) (epochCount : Nat) : List Byte :=
  u32 r.swe ++ u24 r.sw ++ u16 r.n ++ [flagByte [r.overflow, r.overrun, waiting], u8 r.result.code]
    ++ zoneResultForm r.result ++ u16 r.closed
    ++ [u8 (worstCode r.worst), match r.worst with | none => 255 | some (_, i) => u8 i.val]
    ++ u16 epochCount

/-- A SLOT record, 5 + 2 × entries bytes (R116, 12.5). -/
def slotRecord (r : Slot) : List Byte :=
  [u8 r.state.code, u8 r.entries.length, flagByte [r.lost, r.failed]] ++ u16 r.sent
    ++ r.entries.flatMap fun e => [u8 (e.kindBit + 1), e.id]

/-- The settings waiting in a PORT record: bit 7 set when present (12.5). -/
def waitingByte : Option Settings → Byte
  | none => 0
  | some t => settingsByte t ||| 0x80

/-- The eleven counters of R135 in that rule's order. -/
def lineCountersForm (k : LineCounters) : List Byte :=
  u16 k.framesReceived ++ u16 k.damaged ++ u16 k.truncated ++ u16 k.malformed ++ u16 k.noise
    ++ u16 k.parityError ++ u16 k.framingError ++ u16 k.breaks ++ u16 k.framesSent
    ++ u16 k.transmitAbort ++ u16 k.replyDropped

/-- The router's counters of a port (R138). -/
def routerCountersForm (k : RouterCounters) : List Byte :=
  u16 k.misdirected ++ u16 k.unknownKind ++ u16 k.requestOverrun ++ u16 k.downwardDrop

/-- A PORT record, 34 bytes; for U the fields that do not apply read 0 (R135, R152, 12.5; log 13). -/
def portRecord (p : Port) (r : PortRec) : List Byte :=
  match p with
  | .floor _ =>
    lineCountersForm r.count ++ routerCountersForm r.router
      ++ [settingsByte r.inForce, waitingByte r.waiting, flagByte [r.up, r.hold.isSome, r.owed],
          u8 r.downward.length]
  | .u =>
    lineCountersForm { r.count with breaks := 0, transmitAbort := 0, replyDropped := 0 }
      ++ routerCountersForm { r.router with requestOverrun := 0, downwardDrop := 0 }
      ++ [settingsByte r.inForce, waitingByte r.waiting, 0, 0]

/-- A UNIT record, 26 bytes (R183, 12.5). -/
def State.unitRecord (s : State) : List Byte :=
  [s.unitNo.setWidth 8, s.unitFlags, u8 s.turn.state.code] ++ u16 s.turn.silence
    ++ [s.svt.gen, u8 s.svt.shadowState.code, u8 s.evalQueue.length, u8 s.closing.length,
        u8 s.turn.fq.length]
    ++ u16 s.counters.unknownSource ++ u16 s.counters.coalesced ++ u16 s.counters.eqOverflow
    ++ u16 s.counters.versionDiscard ++ u16 s.counters.reportLoss ++ u16 s.turn.collisions
    ++ u16 s.turn.requestOverrun ++ u16 s.turn.forwardDrop

/-- The record of a subject; `none` where the index is outside the subject's range (R183). -/
def State.queryRecord (s : State) (subject : Subject) (i : Byte) : Option (List Byte) :=
  match subject with
  | .sensor => if selectorNull i then none else some (sensorRecord (s.desc i))
  | .surface => if h : i.toNat < 64 then some (surfaceRecord (s.surface ⟨i.toNat, h⟩)) else none
  | .zone =>
    if h : i.toNat < 32 then
      some (zoneRecord (s.zone ⟨i.toNat, h⟩) (s.zoneClose.get ⟨i.toNat, h⟩).isSome s.epochCount)
    else none
  | .slot => if h : i.toNat < 16 then some (slotRecord (s.slot ⟨i.toNat, h⟩)) else none
  | .port =>
    if h : i.toNat < 5 then
      some (portRecord (portOfIdx ⟨i.toNat, h⟩) (s.port (portOfIdx ⟨i.toNat, h⟩)))
    else none
  | .unit => some s.unitRecord

/-- The snapshot an EXCHANGE of an SFT record returns, 18 bytes (R82, R181, 12.5). -/
def exchangeSnapshot (r : Surface) : List Byte :=
  sftWriteForm r.config
    ++ [u8 (r.grade.code + bit r.confirmed * 128),
        u8 (sourceCode r.source + bit r.margin.isSome * 128)] ++ i16? r.margin
    ++ [u8 r.dwell] ++ u16 r.changes ++ [r.version]

end Sys2Proof.Machine
end

