-- ==== Sys2Proof/Machine/Psychro.lean ====
section
/-! DEFINITION. The arithmetic of the psychrometric engine (section 3.4). -/

namespace Sys2Proof.Machine

/-- Entry E[i] of a bank as a number; 0 beyond the table. -/
def Bank.entry (b : Bank) (i : Nat) : Nat := (b.cells.getD i 0).toNat

/-- Stage 1: the saturation pressure at a corrected temperature (R47). -/
def saturation (b : Bank) (t : Int) : Nat :=
  let j := (t + 4000).toNat
  let i := j / 50
  let f := j % 50
  if 250 ≤ i then Bank.entry b 250
  else Bank.entry b i + (Bank.entry b (i + 1) - Bank.entry b i) * f / 50

/-- Stage 2: the vapour pressure, rounded half up (R48). -/
def vapour (es rh : Nat) : Nat := (es * rh + 5000) / 10000

/-- The largest index from `i` on, in a list of entries, whose entry is at most `x`. -/
def lastAtMost (x : Nat) : List SvtEntry → Nat → Option Nat
  | [], _ => none
  | e :: rest, i =>
    match lastAtMost x rest (i + 1) with
    | some k => some k
    | none => if e.toNat ≤ x then some i else none

/-- Stage 3: the dew point of a vapour pressure, and BELOW_TABLE (R49). -/
def dewPoint (b : Bank) (x : Nat) : Int × Bool :=
  if x < Bank.entry b 0 then (-4000, true)
  else
    let i := (lastAtMost x b.cells 0).getD 0
    if 250 ≤ i then (8500, false)
    else
      let frac := 50 * (x - Bank.entry b i) / (Bank.entry b (i + 1) - Bank.entry b i)
      (-4000 + ((50 * i + frac : Nat) : Int), false)

/-- Stage 5: the zone mean, rounded half up (R53). -/
def zoneMean (p : Snapshot) : Nat := (2 * p.swe + p.sw) / (2 * p.sw)

/-- Every entry of a list is above the one before. -/
def rising : List SvtEntry → Bool
  | a :: b :: rest => decide (a.toNat < b.toNat) && rising (b :: rest)
  | _ => true

/-- The commit check's condition: E[0] at least 1 and every entry above the one before (R33). -/
def Bank.valid (b : Bank) : Bool := decide (1 ≤ Bank.entry b 0) && rising b.cells

/-- The first offending index of a bank's entries after the first (R34). -/
def firstFall : List SvtEntry → Nat → Option Nat
  | a :: b :: rest, i => if b.toNat ≤ a.toNat then some (i + 1) else firstFall (b :: rest) (i + 1)
  | _, _ => none

/-- The index NOT_COMMITTED gives: 0 if E[0] is 0, else the first entry that fails to rise; `none` if
the bank passes (R34). -/
def Bank.failure (b : Bank) : Option Nat :=
  if Bank.entry b 0 = 0 then some 0 else firstFall b.cells 0

end Sys2Proof.Machine
end

