-- ==== Sys2Proof/Machine/Zones.lean ====
section
/-! DEFINITION. The zone aggregator (chapter 4). -/

namespace Sys2Proof.Machine

/-- The ranking of the worst grade, worst highest: WET, ALERT, WATCH, BLIND, CLEAR (R71). -/
def Grade.zoneRank : Grade → Nat
  | .clear => 0 | .blind => 1 | .watch => 2 | .alert => 3 | .wet => 4

/-- An in-use surface record that names the zone. -/
def Surface.inZone (r : Surface) (z : Fin 32) : Bool :=
  match r.config with
  | some c => decide (c.zone = z)
  | none => false

/-- The worst of two candidates for worst grade and surface; the first is kept on a tie. -/
def worseOf (a : Option (Grade × Fin 64)) (g : Grade) (i : Fin 64) : Option (Grade × Fin 64) :=
  match a with
  | none => some (g, i)
  | some (h, j) => if h.zoneRank < g.zoneRank then some (g, i) else some (h, j)

/-- The worst grade of a zone's in-use surfaces with the lowest-numbered surface that holds it
(R71). -/
def State.worstOf (s : State) (z : Fin 32) : Option (Grade × Fin 64) :=
  (s.surfaces.indices fun r => r.inZone z).foldl (fun a i => worseOf a (s.surface i).grade i) none

/-- Re-encode a zone's worst grade and worst surface (R72). -/
def State.reencode (s : State) (z : Fin 32) : State :=
  s.updZone z fun r => { r with worst := s.worstOf z }

/-- Raise a ZONE event for a zone whose summary-report enable is yes (R73). -/
def State.raiseZone (s : State) (z : Fin 32) : State :=
  let r := s.zone z
  if r.summary then s.raise (.zone z r.result r.closed r.worst) else s

/-- Accumulation of one air result of weight `w` into a zone record (R63, R64). -/
def Zone.accumulate (r : Zone) (w e : Nat) : Zone :=
  if w = 0 ∨ r.overflow = true then r
  else if 4294967295 < r.swe + w * e ∨ 65535 < r.n + 1 then { r with overflow := true }
  else { r with swe := r.swe + w * e, sw := r.sw + w, n := r.n + 1 }

/-- A zone closes at an expiry without a zone job: with Σw 0, or overflowed (R66). -/
def Zone.closesAtOnce (r : Zone) : Bool := decide (r.sw = 0) || r.overflow

/-- A zone record after an expiry; `waiting`: its previous close is still in the list (R66). -/
def Zone.close (r : Zone) (waiting : Bool) : Zone :=
  { r with
    result :=
      if r.sw = 0 then .none
      else if r.overflow then .saturated
      else r.result
    closed := if r.sw = 0 then 0 else r.n
    overrun := r.overrun || waiting
    swe := 0, sw := 0, n := 0, overflow := false }

/-- Close one zone: its record, and its entry in the zone-close list (R66). -/
def State.closeZone (s : State) (z : Fin 32) : State :=
  let r := s.zone z
  let waiting := (s.zoneClose.get z).isSome
  let s := s.setZone z (r.close waiting)
  if r.closesAtOnce then s
  else s.setZoneClose (s.zoneClose.set z (some { swe := r.swe, sw := r.sw, n := r.n }))

/-- Close every zone (R66). -/
def State.closeZones (s : State) : State := (List.finRange 32).foldl State.closeZone s

/-- The completion of a zone job at the zone aggregator (R69). -/
def State.zoneDelivered (s : State) (z : Fin 32) (e : Nat) (td : Int) : State :=
  (s.updZone z fun r => { r with result := .valid e td }).raiseZone z

end Sys2Proof.Machine
end

