-- ==== Sys2Proof/Machine/Surfaces.lean ====
section
/-! DEFINITION. The surface block (chapter 5). -/

namespace Sys2Proof.Machine

/-! ### Grades from margins -/

/-- The grade a margin calls for under thresholds raised by `h` (R84). -/
def gradeAt (t : ThrSet) (h : Int) (m : Int) : Grade :=
  if t.watch + h ≤ m then .clear
  else if t.alert + h ≤ m then .watch
  else if t.wet + h ≤ m then .alert
  else .wet

/-- The raw grade of a margin (R84). -/
def rawGrade (t : ThrSet) (m : Int) : Grade := gradeAt t 0 m

/-- The candidate grade of a margin (R84). -/
def candidateGrade (t : ThrSet) (m : Int) : Grade := gradeAt t t.hyst m

/-- The place of a grade in the order CLEAR, WATCH, ALERT, WET; BLIND has none (R83). -/
def Grade.rank : Grade → Option Nat
  | .blind => none | .clear => some 0 | .watch => some 1 | .alert => some 2 | .wet => some 3

/-- `a` is worse than `b` (R83). -/
def Grade.worse (a b : Grade) : Bool :=
  match a.rank, b.rank with
  | some x, some y => decide (y < x)
  | _, _ => false

/-- Grade and dwell count after an evaluation with margin `m` (R86, R87, R88). -/
def gradeStep (t : ThrSet) (r : Surface) (m : Int) : Grade × Nat :=
  if r.grade = .blind then (rawGrade t m, 0)
  else if (rawGrade t m).worse r.grade then (rawGrade t m, 0)
  else if r.confirmed then (r.grade, 0)
  else if r.grade.worse (candidateGrade t m) then
    if t.dwell ≤ r.dwell + 1 then (candidateGrade t m, 0) else (r.grade, r.dwell + 1)
  else (r.grade, 0)

/-- The record after an evaluation with a usable margin (R86 to R89). -/
def Surface.graded (r : Surface) (t : ThrSet) (m : Int) (src : Source) : Surface :=
  { r with grade := (gradeStep t r m).1, dwell := (gradeStep t r m).2, margin := some m,
           source := some src }

/-- The record without a usable margin or without its probe: BLIND unless CONFIRMED holds it (R85,
R93). -/
def Surface.blinded (r : Surface) : Surface :=
  { r with grade := if r.confirmed then r.grade else .blind, dwell := 0, margin := none,
           source := none }

/-- The out-of-use values (R78). -/
def Surface.outOfUse (r : Surface) : Surface :=
  { r with config := none, grade := .blind, confirmed := false, source := none, margin := none,
           dwell := 0 }

/-! ### Grade changes -/

/-- The GRADE event of a record that has left a grade (R97). -/
def Surface.gradeEvent (r : Surface) (i : Fin 64) (left : Grade) : Event :=
  .grade i left r.grade r.margin r.confirmed (decide (r.source = some .fallback))

/-- The effects of a grade change of record `i`, which left grade `left`: change count, GRADE event,
the zone's worst grade and the CONDENSE line (R96). -/
def State.gradeChanged (s : State) (i : Fin 64) (left : Grade) : State :=
  match (s.surface i).config with
  | none => s
  | some c =>
    let s := s.setSurface i { s.surface i with changes := satInc (s.surface i).changes }
    let s := if c.reportEnable then s.raise ((s.surface i).gradeEvent i left) else s
    (s.reencode c.zone).evalCondense

/-- Store a record that held grade `left`; a different grade in an in-use record is a grade change
(R96). -/
def State.regrade (s : State) (i : Fin 64) (left : Grade) (r : Surface) : State :=
  let s := s.setSurface i r
  if r.grade ≠ left then s.gradeChanged i left else s

/-! ### Evaluation, wetness arrivals and probe notices -/

/-- Evaluate a surface at a surface job's completion: the margin with its source, or BLIND (R85 to
R89). A record that is out of use is not evaluated (R77); what else a job bound to it does is log 30. -/
def State.evaluate (s : State) (i : Fin 64) (part : Option (Int × Source)) : State :=
  let r := s.surface i
  match r.config with
  | none => s
  | some c =>
    match part, decide ((s.desc c.probe).state = .live) with
    | some (m, src), true => s.regrade i r.grade (r.graded (s.thr.get c.thr) m src)
    | _, _ => s.regrade i r.grade r.blinded

/-- The in-use records whose wetness selector is `sel`. -/
def State.padSurfaces (s : State) (sel : Selector) : List (Fin 64) :=
  s.surfaces.indices fun r =>
    match r.config with
    | some c => decide (c.wetness = some sel)
    | none => false

/-- The in-use records whose surface probe selector is `sel`. -/
def State.probeSurfaces (s : State) (sel : Selector) : List (Fin 64) :=
  s.surfaces.indices fun r =>
    match r.config with
    | some c => decide (c.probe = sel)
    | none => false

/-- A WATER arrival at one record (R90). -/
def State.wetted (s : State) (i : Fin 64) : State :=
  let r := s.surface i
  s.regrade i r.grade { r with confirmed := true, grade := .wet, dwell := 0 }

/-- CONFIRMED is cleared at one record (R91, R94). -/
def State.unconfirmed (s : State) (i : Fin 64) : State :=
  s.setSurface i { s.surface i with confirmed := false }

/-- A wetness arrival (R90, R91). -/
def State.wetnessArrival (s : State) (sel : Selector) (w : Wet) : State :=
  match w with
  | .water => (s.padSurfaces sel).foldl State.wetted s
  | .dry => (s.padSurfaces sel).foldl State.unconfirmed s

/-- A SURFACE probe notice at one record (R93). -/
def State.probeLost (s : State) (i : Fin 64) : State :=
  let r := s.surface i
  s.regrade i r.grade r.blinded

/-- A probe notice of a descriptor's kind (R93 to R95); AIR descriptors send none (R18). -/
def State.probeNotice (s : State) (kind : SensorKind) (sel : Selector) : State :=
  match kind with
  | .air => s
  | .surface => (s.probeSurfaces sel).foldl State.probeLost s
  | .wetness => (s.padSurfaces sel).foldl State.unconfirmed s

/-! ### WRITE and EXCHANGE -/

/-- The wetness probe is in force: present, of kind WETNESS, LIVE, last wet value WATER (R81). -/
def State.padInForce (s : State) (sel : Option Selector) : Bool :=
  match sel with
  | none => false
  | some w =>
    let d := s.desc w
    (d.config.any fun c => decide (c.kind = .wetness)) && decide (d.state = .live) &&
      decide (d.lastWet = some .water)

/-- A descriptor is present with a given kind. -/
def State.presentAs (s : State) (sel : Selector) (k : SensorKind) : Bool :=
  (s.desc sel).config.any fun c => decide (c.kind = k)

/-- The checks of R80 that look at the descriptors and the other records. -/
def State.sftAdmits (s : State) (i : Fin 64) (c : SurfaceConfig) : Bool :=
  s.presentAs c.probe .surface && ((s.probeSurfaces c.probe).all fun j => decide (j = i)) &&
    match c.wetness with
    | none => true
    | some w => s.presentAs w .wetness

/-- The grade a record counts as having held before a WRITE or EXCHANGE (R81, R82). -/
def Surface.gradeBefore (r : Surface) : Grade := if r.config.isSome then r.grade else .blind

/-- Re-encode the zone a configuration names. -/
def State.reencodeOf (s : State) (c : Option SurfaceConfig) : State :=
  match c with
  | none => s
  | some c => s.reencode c.zone

/-- Store a written record: the grade change if there is one, both zones, and the CONDENSE line (R81,
R72, R189). -/
def State.storeSurface (s : State) (i : Fin 64) (r : Surface) : State :=
  let old := s.surface i
  let s := if r.config.isSome then s.regrade i old.gradeBefore r else s.setSurface i r
  ((s.reencodeOf old.config).reencodeOf r.config).evalCondense

/-- The record a WRITE leaves (R81). -/
def State.writtenSurface (s : State) (i : Fin 64) (c : Option SurfaceConfig) : Surface :=
  let r := { (s.surface i).outOfUse with version := (s.surface i).version + 1 }
  match c with
  | none => r
  | some c =>
    if s.padInForce c.wetness then { r with config := some c, grade := .wet, confirmed := true }
    else { r with config := some c }

/-- The record an EXCHANGE leaves (R82). -/
def State.exchangedSurface (s : State) (i : Fin 64) (c : Option SurfaceConfig) : Surface :=
  let old := s.surface i
  let r := { old with version := old.version + 1 }
  match c with
  | none => r.outOfUse
  | some c =>
    let confirmed :=
      match old.config with
      | some oc =>
        if oc.wetness = c.wetness then old.confirmed else s.padInForce c.wetness
      | none => s.padInForce c.wetness
    let reset :=
      match old.config with
      | some oc => decide (oc.wetness ≠ c.wetness) && confirmed
      | none => confirmed
    { r with config := some c, confirmed := confirmed,
             grade := if reset then .wet else r.grade,
             dwell := if reset then 0 else r.dwell }

end Sys2Proof.Machine
end

