-- ==== Sys2Proof/Machine/Forwarding.lean ====
section
/-! DEFINITION. The forward queue and the forward modes (section 9.6): offers, ENRICHED frames and the
CHANGED test. -/

namespace Sys2Proof.Machine

/-- The turn controller after a frame is offered to the forward queue (R165). -/
def Turn.offer (t : Turn) (f : Frame) : Turn :=
  if t.fq.length < Config.forwardQueueSize then { t with fq := t.fq ++ [f] }
  else { t with forwardDrop := satInc t.forwardDrop }

/-- The turn controller after a frame that a turn had committed returns to the head of the forward queue (R158).
The queue never holds more than 32 frames (R165): where a frame was placed since the commit and filled it,
that newest frame is dropped and counted, as if the commit had not made room for it (DESIGN CHOICE, log 12). -/
def Turn.takeBack (t : Turn) (f : Frame) : Turn :=
  if t.fq.length < Config.forwardQueueSize then { t with fq := f :: t.fq }
  else
    { t with fq := (f :: t.fq).take Config.forwardQueueSize, forwardDrop := satInc t.forwardDrop }

/-- Offer a frame to the forward queue (R165). -/
def State.offerFq (s : State) (f : Frame) : State := s.updTurn fun t => t.offer f

/-! ### ENRICHED frames -/

/-- The header of a sensor's ENRICHED frames (R168). -/
def enrichedEnvelope (own : BitVec 4) (sel : Selector) : Envelope :=
  { dstUnit := 0, dstScope := .unit, dstNode := 0, srcUnit := own,
    srcScope := floorScope (selectorPort sel), srcNode := selectorNode sel, rpl := 0, tag := 0 }

/-- An ENRICHED frame of a sensor (R168). -/
def State.enrichedFrame (s : State) (sel : Selector) (payload : List Byte) : Frame :=
  { env := enrichedEnvelope s.unitNo sel, kind := FrameKind.enriched.code, payload := payload }

/-- The AIR form: the temperature, the humidity and the air result the rule that offers the frame gives,
with the descriptor's state and flags (12.4). -/
def airPayload (sel : Selector) (d : Descriptor) (rejected : Bool) (t : Option Int) (rh : Option Nat)
    (air : Option (Nat × Int)) : List Byte :=
  [1, sel, u8 d.state.code, d.flags rejected, marks t.isSome rh.isSome air.isSome false false false]
    ++ i16? t ++ u16 (rh.getD 0) ++ u24 ((air.map Prod.fst).getD 0) ++ i16? (air.map Prod.snd)

/-- The full SURFACE form (R56, 12.4). The flags are the descriptor's (log 22). -/
def surfacePayload (sel : Selector) (d : Descriptor) (i : Fin 64) (ts : Int) (capture : Capture)
    (margin : Option Int) (grade : Grade) : List Byte :=
  [2, sel, u8 i.val, u8 d.state.code, d.flags false,
    marks true false false false capture.isSome margin.isSome] ++ i16 ts
    ++ i16? (capture.map Prod.fst) ++ i16? margin
    ++ [u8 (grade.code + sourceCode (capture.map Prod.snd) * 16)]

/-- The detached SURFACE form (R55, 12.4). -/
def detachedPayload (sel : Selector) (d : Descriptor) (rejected : Bool) (ts : Option Int) : List Byte :=
  [3, sel, u8 d.state.code, d.flags rejected, marks ts.isSome false false false false false] ++ i16? ts

/-- The WETNESS form (R15, 12.4). -/
def wetnessPayload (sel : Selector) (d : Descriptor) (rejected : Bool) : List Byte :=
  [4, sel, u8 d.state.code, d.flags rejected, marks false false false d.lastWet.isSome false false,
    u8 ((d.lastWet.map Wet.code).getD 0)]

/-- The frame of a rejection: the descriptor's last stored values (R13, R168). -/
def rejectPayload (sel : Selector) (d : Descriptor) : SensorKind → List Byte
  | .air => airPayload sel d true d.lastT d.lastRh (d.lastAir.map fun a => (a.e, a.td))
  | .surface => detachedPayload sel d true d.lastT
  | .wetness => wetnessPayload sel d true

/-- What the forwarded reference takes from the frame of a rejection (R167). -/
def rejectRef (d : Descriptor) : SensorKind → RefValue
  | .air => .air (d.lastAir.map AirResult.td)
  | .surface => .surfaceDetached
  | .wetness => .wetness d.lastWet

/-! ### The CHANGED test (R167) -/

/-- Two compared values differ: present in one only, or apart by at least the deadband (R167). -/
def valueMoved (deadband : Nat) : Option Int → Option Int → Bool
  | none, none => false
  | some a, some b => decide (deadband ≤ (a - b).natAbs)
  | _, _ => true

/-- The row of R167 for the kind. -/
def refMoved (deadband : Nat) : RefValue → RefValue → Bool
  | .air a, .air b => valueMoved deadband a b
  | .surfaceFull i g m, .surfaceFull j h n =>
    decide (i ≠ j) || decide (g ≠ h) || valueMoved deadband m n
  | .surfaceDetached, .surfaceDetached => false
  | .wetness a, .wetness b => decide (a ≠ b)
  | _, _ => true

/-- The frame carries a change against the forwarded reference (R167). -/
def refChanged (deadband : Nat) (old : Option ForwardRef) (new : ForwardRef) : Bool :=
  match old with
  | none => true
  | some o => decide (o.state ≠ new.state) || refMoved deadband o.value new.value

/-! ### Offers -/

/-- Offer an ENRICHED frame of a sensor; the forwarded reference takes what it carries, whether the
queue has room or not (R167). -/
def State.offerEnriched (s : State) (sel : Selector) (payload : List Byte) (value : RefValue) : State :=
  (s.offerFq (s.enrichedFrame sel payload)).updDesc sel fun d =>
    { d with forwarded := some { state := d.state, value := value } }

/-- Offer an ENRICHED frame of a sensor if the test of R167 finds a change. -/
def State.offerChanged (s : State) (sel : Selector) (deadband : Nat) (payload : List Byte)
    (value : RefValue) : State :=
  let d := s.desc sel
  if refChanged deadband d.forwarded { state := d.state, value := value } then
    s.offerEnriched sel payload value
  else s

/-- The forward decision at a completion or at an accepted wetness sample (R15, R20, R166). -/
def State.forward (s : State) (sel : Selector) (payload : List Byte) (value : RefValue) : State :=
  match (s.desc sel).config with
  | none => s
  | some c =>
    match c.mode with
    | .off => s
    | .raw => s
    | .enriched => s.offerEnriched sel payload value
    | .changed => s.offerChanged sel c.deadband payload value

/-- The forward decision at a rejection; `moved`: it moved the sensor into SUSPECT, without which mode
CHANGED offers nothing (R13, R166). Where it moved the sensor the frame is offered whatever the forwarded
reference holds, as R13 has it (DESIGN CHOICE, log 28). -/
def State.forwardReject (s : State) (sel : Selector) (moved : Bool) : State :=
  let d := s.desc sel
  match d.config with
  | none => s
  | some c =>
    match c.mode with
    | .off => s
    | .raw => s
    | .enriched => s.offerEnriched sel (rejectPayload sel d c.kind) (rejectRef d c.kind)
    | .changed =>
      if moved then s.offerEnriched sel (rejectPayload sel d c.kind) (rejectRef d c.kind) else s

end Sys2Proof.Machine
end

