-- ==== Sys2Proof/Machine/Evaluation.lean ====
section
/-! DEFINITION. The psychrometric engine (chapter 3): offers, the take, the dew-point capture,
completions, and the epoch expiry that feeds it. -/

namespace Sys2Proof.Machine

/-! ### The dew-point capture (R51) -/

/-- What an associated selector contributes to Td_eff (R51). -/
def State.contribution (s : State) (sel : Selector) : Option Int :=
  let d := s.desc sel
  if selectorNull sel = false ∧ s.presentAs sel .air = true ∧ d.state = .live then
    d.lastAir.map AirResult.td
  else none

/-- The largest of a list. -/
def largest : List Int → Option Int
  | [] => none
  | a :: rest => some (rest.foldl max a)

/-- The dew-point capture of a surface record (R51). -/
def State.capture (s : State) (c : SurfaceConfig) : Capture :=
  match largest (c.assoc.filterMap s.contribution) with
  | some td => some (td, .air)
  | none =>
    match (s.zone c.zone).fallback, (s.zone c.zone).result with
    | true, .valid _ td => some (td, .fallback)
    | _, _ => none

/-- The binding of a SURFACE job at its take (R42). -/
def State.binding (s : State) (sel : Selector) : Option Binding :=
  match (s.probeSurfaces sel).head? with
  | none => none
  | some i =>
    match (s.surface i).config with
    | none => none
    | some c => some { surface := i, version := (s.surface i).version, capture := s.capture c }

/-! ### The take (R41, R42) -/

/-- The job record made from an evaluation-queue entry (R40, R42). -/
def State.jobOf (s : State) (q : SampleJob) : Job :=
  match q.reading with
  | .air t rh saturated => .air q.sel t rh q.clamped saturated s.svt.gen q.version
  | .surface t => .surface q.sel t q.clamped s.svt.gen q.version (s.binding q.sel)

/-- The engine, free, takes the lowest-numbered waiting zone, else the EQ head, else becomes IDLE
(R41). -/
def State.takeJob (s : State) : State :=
  match s.closing with
  | z :: _ =>
    match s.zoneClose.get z with
    | some snap => (s.setZoneClose (s.zoneClose.set z none)).setJob (some (.zone z snap s.svt.gen))
    | none => s.setJob none
  | [] =>
    match s.evalQueue with
    | q :: rest => (s.setEvalQueue rest).setJob (some (s.jobOf q))
    | [] => s.setJob none

/-- An IDLE engine takes work that has joined (R41). -/
def State.takeIfIdle (s : State) : State := if s.job.isNone then s.takeJob else s

/-- The evaluation queue with an entry for the job's selector given the job's values; the entry keeps
its place and its version (R19). -/
def coalesce (q : List SampleJob) (j : SampleJob) : List SampleJob :=
  q.map fun x => if x.sel = j.sel then { j with version := x.version } else x

/-- Offer a job to the evaluation queue (R19). -/
def State.offerJob (s : State) (j : SampleJob) : State :=
  if s.evalQueue.any fun x => decide (x.sel = j.sel) then
    (s.setEvalQueue (coalesce s.evalQueue j)).count fun c => { c with coalesced := satInc c.coalesced }
  else if s.evalQueue.length < Config.evalQueueSize then
    (s.setEvalQueue (s.evalQueue ++ [j])).takeIfIdle
  else
    (s.count fun c => { c with eqOverflow := satInc c.eqOverflow }).updDesc j.sel fun d =>
      { d with unevaluated := true }

/-! ### Completions -/

/-- The bank that was active when a job of a generation was taken (R28). -/
def State.jobBank (s : State) (gen : BitVec 8) : Bank :=
  if gen = s.svt.gen then s.svt.active else s.svt.shadow

/-- A job of another generation than the current one is in flight (R28, R31). -/
def State.interlocked (s : State) : Bool := s.job.any fun j => decide (j.gen ≠ s.svt.gen)

/-- One more version discard (R20, R55). -/
def State.discard (s : State) : State :=
  s.count fun c => { c with versionDiscard := satInc c.versionDiscard }

/-- A delivered AIR result at its descriptor (R20). -/
def Descriptor.airDelivered (d : Descriptor) (e : Nat) (td : Int) (below clamped saturated : Bool)
    (gen : BitVec 8) : Descriptor :=
  { d with accessed := true, unevaluated := false, lastAir := some { e := e, td := td, gen := gen },
           belowTable := below, clamped := clamped, saturated := saturated }

/-- A delivered SURFACE result at its descriptor (R20). -/
def Descriptor.surfaceDelivered (d : Descriptor) : Descriptor :=
  { d with accessed := true, unevaluated := false }

/-- The zone aggregator receives an air result (R63). -/
def State.accumulateAir (s : State) (sel : Selector) (e : Nat) : State :=
  match (s.desc sel).config with
  | none => s
  | some c => s.updZone c.zone fun r => r.accumulate c.weight.val e

/-- The delivery of an AIR job (R54). -/
def State.deliverAir (s : State) (sel : Selector) (t : Int) (rh : Nat) (clamped saturated : Bool)
    (gen version : BitVec 8) : State :=
  let e := vapour (saturation (s.jobBank gen) t) rh
  let td := dewPoint (s.jobBank gen) e
  if (s.desc sel).version ≠ version then s.discard
  else
    let s := s.updDesc sel fun d => d.airDelivered e td.1 td.2 clamped saturated gen
    let s := s.accumulateAir sel e
    s.forward sel (airPayload sel (s.desc sel) false (some t) (some rh) (some (e, td.1)))
      (.air (some td.1))

/-- The margin of a capture (R52). -/
def margin (t : Int) (capture : Capture) : Option Int := capture.map fun p => t - p.1

/-- What the surface block receives of a result (R56). -/
def surfacePart (t : Int) (capture : Capture) : Option (Int × Source) :=
  capture.map fun p => (t - p.1, p.2)

/-- The capture as the full frame carries it: absent without a usable margin (R56). So it is too for a record
that is out of use, which only a version made equal again by a multiple of 256 WRITEs leads to (R55), and of
whose frame no rule speaks (DESIGN CHOICE, log 30). -/
def State.usableCapture (s : State) (i : Fin 64) (capture : Capture) : Capture :=
  match (s.surface i).config with
  | none => none
  | some c => if (s.desc c.probe).state = .live then capture else none

/-- A detached frame's forward decision (R55). -/
def State.forwardDetached (s : State) (sel : Selector) (t : Int) : State :=
  s.forward sel (detachedPayload sel (s.desc sel) false (some t)) .surfaceDetached

/-- A full frame's forward decision, after the surface block has acted (R56). -/
def State.forwardFull (s : State) (sel : Selector) (t : Int) (b : Binding) : State :=
  let cap := s.usableCapture b.surface b.capture
  let g := (s.surface b.surface).grade
  s.forward sel (surfacePayload sel (s.desc sel) b.surface t cap (margin t cap) g)
    (.surfaceFull b.surface g (margin t cap))

/-- The delivery of a SURFACE job (R55, R56). -/
def State.deliverSurface (s : State) (sel : Selector) (t : Int) (version : BitVec 8)
    (binding : Option Binding) : State :=
  if (s.desc sel).version ≠ version then s.discard
  else
    let s := s.updDesc sel Descriptor.surfaceDelivered
    match binding with
    | none => s.forwardDetached sel t
    | some b =>
      if (s.surface b.surface).version ≠ b.version then s.discard.forwardDetached sel t
      else (s.evaluate b.surface (surfacePart t b.capture)).forwardFull sel t b

/-- The delivery of a ZONE job (R53, R57, R69). -/
def State.deliverZone (s : State) (z : Fin 32) (snap : Snapshot) (gen : BitVec 8) : State :=
  s.zoneDelivered z (zoneMean snap) (dewPoint (s.jobBank gen) (zoneMean snap)).1

/-! ### The epoch expiry -/

/-- The epoch expires: every zone is closed, an IDLE engine takes a job, the ZONE events of the zones
closed at once are raised in ascending order, COLLECTING slots are flushed, and the count returns to 0
(R65 to R67, R110). -/
def State.epochExpires (s : State) : State :=
  let atOnce := s.zones.indices Zone.closesAtOnce
  let s := (s.setEpochCount 0).closeZones.takeIfIdle
  (atOnce.foldl State.raiseZone s).flushSlots

end Sys2Proof.Machine
end

