-- ==== Sys2Proof/Machine/Sensors.lean ====
section
/-! DEFINITION. The descriptor controller (chapter 1): samples, the sensor state machine, and the WRITE
of a descriptor. -/

namespace Sys2Proof.Machine

/-- Raise the SENSOR event of a descriptor that has left a state, if its reporting is enabled (R17). The
age and the count are the descriptor's after the transition (log 10). -/
def State.raiseSensor (s : State) (sel : Selector) (left : SensorState) : State :=
  let d := s.desc sel
  match d.config with
  | none => s
  | some c => if c.reportEnable then s.raise (.sensor sel left d.state d.age d.rejects) else s

/-! ### Rejection (R13) -/

/-- A descriptor after one more rejection (R13). -/
def Descriptor.rejected (d : Descriptor) : Descriptor :=
  { d with rejects := min 3 (d.rejects + 1),
           phase := if 3 ≤ d.rejects + 1 then .suspect else d.phase }

/-- One more rejection moves the sensor into SUSPECT (R13). -/
def Descriptor.rejectMoves (d : Descriptor) : Bool :=
  decide (3 ≤ d.rejects + 1) && decide (d.phase ≠ .suspect)

/-- A rejected sample, whose counter has been counted (R13, R17, R18). -/
def State.rejectSample (s : State) (sel : Selector) (kind : SensorKind) : State :=
  let d := s.desc sel
  let s := s.setDesc sel d.rejected
  let s := if d.rejectMoves then (s.raiseSensor sel d.state).probeNotice kind sel else s
  s.forwardReject sel d.rejectMoves

/-- A format reject (R7). -/
def State.formatReject (s : State) (sel : Selector) (kind : SensorKind) : State :=
  (s.updDesc sel fun d => { d with formatRejects := satInc d.formatRejects }).rejectSample sel kind

/-- A plausibility reject (R8, R12). -/
def State.plausibilityReject (s : State) (sel : Selector) (kind : SensorKind) : State :=
  (s.updDesc sel fun d => { d with plausibilityRejects := satInc d.plausibilityRejects }).rejectSample
    sel kind

/-! ### Acceptance (R14, R15) -/

/-- What acceptance sets for every kind (R14). -/
def Descriptor.accepted (d : Descriptor) : Descriptor :=
  { d with phase := .live, age := 0, rejects := 0 }

/-- A descriptor after an accepted AIR sample (R14). -/
def Descriptor.airAccepted (d : Descriptor) (t : Int) (rh : Nat) (clamped saturated : Bool) :
    Descriptor :=
  { d.accepted with lastT := some t, lastRh := some rh, clamped := clamped, saturated := saturated }

/-- A descriptor after an accepted SURFACE sample (R14). -/
def Descriptor.surfaceAccepted (d : Descriptor) (t : Int) (clamped : Bool) : Descriptor :=
  { d.accepted with lastT := some t, clamped := clamped, saturated := false }

/-- A descriptor after an accepted WETNESS sample (R14, R15). -/
def Descriptor.wetnessAccepted (d : Descriptor) (w : Wet) : Descriptor :=
  { d.accepted with lastWet := some w, accessed := true }

/-- Leaving STALE or SUSPECT at an acceptance raises a SENSOR event (R14). -/
def State.raiseRecovery (s : State) (sel : Selector) (before : Descriptor) : State :=
  if before.phase = .stale ∨ before.phase = .suspect then s.raiseSensor sel before.state else s

/-- An accepted AIR sample (R14, R19). -/
def State.acceptAir (s : State) (sel : Selector) (t : Int) (rh : Nat) (clamped saturated : Bool) :
    State :=
  let d := s.desc sel
  ((s.setDesc sel (d.airAccepted t rh clamped saturated)).raiseRecovery sel d).offerJob
    { sel := sel, reading := .air t rh saturated, clamped := clamped, version := d.version }

/-- An accepted SURFACE sample (R14, R19). -/
def State.acceptSurface (s : State) (sel : Selector) (t : Int) (clamped : Bool) : State :=
  let d := s.desc sel
  ((s.setDesc sel (d.surfaceAccepted t clamped)).raiseRecovery sel d).offerJob
    { sel := sel, reading := .surface t, clamped := clamped, version := d.version }

/-- An accepted WETNESS sample (R14, R15). -/
def State.acceptWetness (s : State) (sel : Selector) (w : Wet) : State :=
  let d := s.desc sel
  let s := ((s.setDesc sel (d.wetnessAccepted w)).raiseRecovery sel d).wetnessArrival sel w
  s.forward sel (wetnessPayload sel (s.desc sel) false) (.wetness (some w))

/-! ### Sample arrival (R6 to R12) -/

/-- A reading that passed the format and FAULT checks: correction and window (R9 to R12). -/
def State.readingArrives (s : State) (sel : Selector) (c : SensorConfig) (r : Raw) : State :=
  match r with
  | .air t rh =>
    let ct := correctT t c.tOffset
    let cr := correctRh rh c.gain c.rhOffset
    if inRange c.tLo c.tHi ct.1 then s.acceptAir sel ct.1 cr.1 (ct.2 || cr.2.2) cr.2.1
    else s.plausibilityReject sel c.kind
  | .surface t =>
    let ct := correctT t c.tOffset
    if inRange c.tLo c.tHi ct.1 then s.acceptSurface sel ct.1 ct.2
    else s.plausibilityReject sel c.kind
  | .wetness w => s.acceptWetness sel w

/-- The RAW copy of a sample (R6). -/
def State.rawCopy (s : State) (c : SensorConfig) (f : Frame) : State :=
  if c.mode = .raw then s.offerFq f else s

/-- A SAMPLE frame, rewritten by the router, reaches the descriptor controller (R6). -/
def State.sampleArrives (s : State) (sel : Selector) (f : Frame) : State :=
  match (s.desc sel).config with
  | none => s.count fun c => { c with unknownSource := satInc c.unknownSource }
  | some c =>
    let s := s.rawCopy c f
    match readSample c f.payload with
    | .format => s.formatReject sel c.kind
    | .fault => s.plausibilityReject sel c.kind
    | .reading r => s.readingArrives sel c r

/-! ### Time (R16) -/

/-- A descriptor after a seconds tick (R16). -/
def Descriptor.ticked (d : Descriptor) : Descriptor :=
  if d.config.isSome then { d with age := min (d.age + 1) 65535 } else d

/-- A tick has brought an AWAITING or LIVE sensor's age to its limit and the sensor has not gone STALE
yet (R16; log 1). -/
def Descriptor.staleDue (d : Descriptor) : Bool :=
  match d.config with
  | none => false
  | some c => (decide (d.phase = .awaiting) || decide (d.phase = .live)) && decide (c.staleLimit ≤ d.age)

/-- The sensor goes STALE: state, SENSOR event, probe notice (R16 to R18). -/
def State.goStale (s : State) (sel : Selector) : State :=
  let d := s.desc sel
  match d.config with
  | none => s
  | some c =>
    ((s.setDesc sel { d with phase := .stale }).raiseSensor sel d.state).probeNotice c.kind sel

/-- The selectors whose expiry is due, in ascending order. -/
def State.staleSelectors (s : State) : List Selector :=
  if s.sdt.cells.any Descriptor.staleDue then
    (s.sdt.indices Descriptor.staleDue).map fun i => BitVec.ofFin i
  else []

/-! ### WRITE (R5) -/

/-- The descriptor an accepted WRITE leaves (R5). -/
def Descriptor.written (d : Descriptor) (c : Option SensorConfig) : Descriptor :=
  { config := c, phase := .awaiting, age := 0, rejects := 0, lastT := none, lastRh := none,
    lastAir := none, lastWet := none, clamped := false, saturated := false, belowTable := false,
    unevaluated := false, accessed := d.accessed, version := d.version + 1, forwarded := none,
    formatRejects := d.formatRejects, plausibilityRejects := d.plausibilityRejects }

/-- An accepted WRITE of a descriptor (R5). -/
def State.storeDesc (s : State) (sel : Selector) (c : Option SensorConfig) : State :=
  let d := s.desc sel
  let s := s.setDesc sel (d.written c)
  let s := s.setEvalQueue (s.evalQueue.filter fun q => decide (q.sel ≠ sel))
  match d.config with
  | none => s
  | some old => s.probeNotice old.kind sel

end Sys2Proof.Machine
end

