-- ==== Sys2Proof/Machine/LineCode.lean ====
section
/-! DEFINITION. Characters, their cells and the levels of the lines (R120 to R122, R124), and the echo check
(R131). Where in time a cell begins is left out (log 23). -/

namespace Sys2Proof.Machine

/-! ### Characters (R120) -/

/-- The number of 1 bits among the data bits is odd. -/
def oddOnes (b : Byte) : Bool :=
  b.getLsbD 0 ^^ b.getLsbD 1 ^^ b.getLsbD 2 ^^ b.getLsbD 3 ^^ b.getLsbD 4 ^^ b.getLsbD 5 ^^
    b.getLsbD 6 ^^ b.getLsbD 7

/-- The parity bit a character is sent with, or none (R120). -/
def parityBitOf : Parity → Byte → Option Bool
  | .none, _ => none
  | .even, b => some (oddOnes b)
  | .odd, b => some (!oddOnes b)

/-- The character carries a parity error (R120). -/
def parityError (p : Parity) (c : RxBits) : Bool :=
  match parityBitOf p c.data with
  | none => false
  | some want => decide (c.parityBit ≠ want)

/-- The character carries a framing error (R120). -/
def framingError (c : RxBits) : Bool := !c.stopBit

/-- The data bits of a character, least significant first (R120). -/
def dataCells (b : Byte) : List Bool :=
  [b.getLsbD 0, b.getLsbD 1, b.getLsbD 2, b.getLsbD 3, b.getLsbD 4, b.getLsbD 5, b.getLsbD 6,
    b.getLsbD 7]

/-- The cells of a character: start bit, data bits, parity bit, stop bit (R120). -/
def characterCells (p : Parity) (b : Byte) : List Bool :=
  false :: (dataCells b ++ (parityBitOf p b).toList ++ [true])

/-- Cells in one character time (R120). -/
def characterTime : Parity → Nat
  | .none => 10
  | .even => 11
  | .odd => 11

/-- The character a receiver reads from the cells of one character time, start cell first (R120). A cell
that is not there reads as the idle line does. -/
def readCells (p : Parity) (cells : List Bool) : RxBits :=
  let cell := fun n => cells.getD n true
  { data := flagByte [cell 1, cell 2, cell 3, cell 4, cell 5, cell 6, cell 7, cell 8]
    parityBit := decide (p ≠ .none) && cell 9
    stopBit := cell (characterTime p - 1) }

/-! ### Levels (R121, R122, R124) -/

/-- The level at which a line is active (a light pulse on a floor port, space on U) or idle. Inversion
exchanges the two levels (R121, R124). -/
def lineLevel (p : Port) (inverted active : Bool) : Bool :=
  match p with
  | .floor _ => active ^^ inverted
  | .u => !active ^^ inverted

/-- A level of the line is its active state: the pulse state on a floor port, space on U (R122, R124). -/
def lineActive (p : Port) (inverted level : Bool) : Bool :=
  match p with
  | .floor _ => level ^^ inverted
  | .u => !level ^^ inverted

/-! ### Sending (R121, R124) -/

/-- The level a port's transmitter holds between characters and between frames: dark on a floor port, mark
on U (R121, R124). -/
def idleLevel (p : Port) (st : Settings) : Bool := lineLevel p st.txInv false

/-- A cell on an optical line as four quarters of light (R121). -/
def lightQuarters (cell : Bool) : List Bool := [!cell, false, false, false]

/-- The levels a port drives for a cell: the quarters of the short-pulse code on a floor port, NRZ on U
(R121, R124). -/
def cellLevels (p : Port) (st : Settings) (cell : Bool) : List Bool :=
  match p with
  | .floor _ => (lightQuarters cell).map (lineLevel p st.txInv)
  | .u => [lineLevel p st.txInv (!cell)]

/-- What a port drives for a character (R120, R121, R124). -/
def charLevels (p : Port) (st : Settings) (b : Byte) : LineChar :=
  { before := idleLevel p st, cells := (characterCells st.parity b).map (cellLevels p st) }

/-! ### Receiving (R122, R124) -/

/-- Pulse stretching: a pulse anywhere within a cell makes it a 0 (R122). -/
def stretch (pulses : List Bool) : Bool := !(pulses.any fun x => x)

/-- The value of a cell: stretched on a floor port, the centre of the cell on U (R122, R124). -/
def readCell (p : Port) (st : Settings) (levels : List Bool) : Bool :=
  let active := levels.map (lineActive p st.rxInv)
  match p with
  | .floor _ => stretch active
  | .u => !active.getD (active.length / 2) false

/-- The line leaves its idle state where the start cell begins. So a pulse still present from the stop cell
before, and a space that has not returned to mark, begin no character (R122, R124). -/
def startSeen (p : Port) (st : Settings) (l : LineChar) : Bool :=
  !lineActive p st.rxInv l.before &&
    ((l.cells.headD []).head?.any fun x => lineActive p st.rxInv x)

/-- The character a receiver reads from what the line showed, if a start bit was seen (R120, R122, R124). -/
def readLine (p : Port) (st : Settings) (l : LineChar) : Option RxBits :=
  if startSeen p st l then some (readCells st.parity (l.cells.map (readCell p st))) else none

/-- The line of a floor port is still in the pulse state at the end of the stop cell (R123). U has no such
state (R124). -/
def lineHeld (p : Port) (st : Settings) (l : LineChar) : Bool :=
  match p with
  | .floor _ =>
    (l.cells.getD (characterTime st.parity - 1) []).getLast?.any fun x => lineActive p st.rxInv x
  | .u => false

/-! ### Echo check (R131) -/

/-- The echo check of one character: the character sent and what was read back (R131). -/
def echoFails (p : Parity) (sent : Byte) (back : Option RxBits) : Bool :=
  match back with
  | none => true
  | some c => decide (c.data ≠ sent) || parityError p c || framingError c

end Sys2Proof.Machine
end

