-- ==== Sys2Proof/Machine/Lines.lean ====
section
/-! DEFINITION. The line ports (chapter 7) and the floor transmitters (section 8.4). -/

namespace Sys2Proof.Machine

/-! ### Reception -/

/-- A port is at a frame boundary: receiver HUNTING and not part way through a character, transmitter
IDLE (R119). A held character is not finished yet (R123). -/
def PortRec.atBoundary (r : PortRec) : Bool :=
  decide (r.rx = .hunting) && decide (r.tx = .idle) && !r.partWay && r.held.isNone

/-- Count one event in a port's line counters. -/
def PortRec.counted (r : PortRec) (f : LineCounters → LineCounters) : PortRec :=
  { r with count := f r.count }

/-- The counters after a finished character's checks (R120). -/
def LineCounters.marked (k : LineCounters) (parity framing : Bool) : LineCounters :=
  { k with parityError := if parity then satInc k.parityError else k.parityError,
           framingError := if framing then satInc k.framingError else k.framingError }

/-- The number of characters of the frame in assembly, once its length byte is in (R126). -/
def frameSize (chars : List RxChar) : Option Nat := chars[7]?.map fun c => c.data.toNat + 10

/-- The completion of a frame (R129). -/
def PortRec.completeFrame (r : PortRec) (chars : List RxChar) : PortRec :=
  let r := { r with rx := .hunting }
  if chars.any RxChar.marked then r.counted fun k => { k with damaged := satInc k.damaged }
  else
    match decodeFrame (chars.map RxChar.data) with
    | .good f =>
      { r.counted fun k => { k with framesReceived := satInc k.framesReceived } with buffer := some f }
    | .badScope => r.counted fun k => { k with malformed := satInc k.malformed }
    | .crcMismatch => r.counted fun k => { k with damaged := satInc k.damaged }
    | .noFrame => r.counted fun k => { k with damaged := satInc k.damaged }

/-- A character joins the frame in assembly (R125, R126, R129). -/
def PortRec.assemble (r : PortRec) (chars : List RxChar) : PortRec :=
  match frameSize chars with
  | none => { r with rx := .assembling chars }
  | some n =>
    if maxPayload + 10 < n then
      { r.counted fun k => { k with malformed := satInc k.malformed } with rx := .hunting }
    else if chars.length = n then r.completeFrame chars
    else { r with rx := .assembling chars }

/-- The receiver finishes a character (R120, R125). In BREAK and DOWN nothing is received. -/
def PortRec.finishChar (r : PortRec) (c : RxBits) : PortRec :=
  let par := parityError r.inForce.parity c
  let frm := framingError c
  let ch : RxChar := { data := c.data, marked := par || frm }
  match r.rx with
  | .hunting =>
    let r := r.counted fun k => k.marked par frm
    if c.data = startChar then { r with rx := .assembling [ch] }
    else r.counted fun k => { k with noise := satInc k.noise }
  | .assembling chars => (r.counted fun k => k.marked par frm).assemble (chars ++ [ch])
  | .broken => r
  | .down => r

/-- A receiver that is HUNTING or ASSEMBLING. -/
def PortRec.receiving (r : PortRec) : Bool :=
  match r.rx with
  | .hunting => true
  | .assembling _ => true
  | .broken => false
  | .down => false

/-- A port hears the line: it is not in BREAK or DOWN, and U does not transmit (R123, R131, R132). A frame that
is committed but not begun leaves U hearing (log 31). -/
def State.hears (s : State) (p : Port) : Bool :=
  match p with
  | .floor _ => (s.port p).receiving
  | .u => (s.port p).receiving && decide ((s.port p).tx = .idle)

/-- The line as a port's receiver sees it. A change of the receive inversion can turn an idle line active
under the receiver without a change of the line, and that begins a start bit like any other: for the first
character after it, the level before counts as idle (R122, R124; log 29). -/
def PortRec.seen (r : PortRec) (p : Port) (l : LineChar) : LineChar :=
  if r.rxTurned then { l with before := lineLevel p r.inForce.rxInv false } else l

/-- The character a port's receiver reads from what the line showed, if it saw a start bit. -/
def PortRec.reads (r : PortRec) (p : Port) (l : LineChar) : Option RxBits :=
  readLine p r.inForce (r.seen p l)

/-- The start cell of a character has begun on a port (R122, R124). -/
def PortRec.characterBegins (r : PortRec) (p : Port) (l : LineChar) : PortRec :=
  if r.held.isNone && startSeen p r.inForce (r.seen p l) then { r with partWay := true } else r

/-- The receiver of a port reaches the end of a stop cell. Without a start bit there is no character; one
whose line is still in the pulse state is held undecided (R122 to R124). -/
def PortRec.characterEnds (r : PortRec) (p : Port) (l : LineChar) : PortRec :=
  if r.held.isSome then r
  else
    match r.reads p l with
    | none => r
    | some c =>
      if lineHeld p r.inForce l then { r with partWay := true, rxTurned := false, held := some c }
      else { r with partWay := false, rxTurned := false }.finishChar c

/-- A frame in assembly is abandoned as TRUNCATED (R123, R127, R132). -/
def LineCounters.abandon (k : LineCounters) (rx : RxState) : LineCounters :=
  match rx with
  | .assembling _ => { k with truncated := satInc k.truncated }
  | .hunting => k
  | .broken => k
  | .down => k

/-- The gap of 3 character times expires inside a frame (R127). The start of a character ends the gap. -/
def PortRec.gapExpires (r : PortRec) : PortRec :=
  if r.partWay || r.held.isSome then r
  else
    match r.rx with
    | .assembling _ => { r with rx := .hunting, count := r.count.abandon r.rx }
    | .hunting => r
    | .broken => r
    | .down => r

/-- A level of a floor port's line is the pulse state under the port's receive inversion (R122). -/
def PortRec.pulse (r : PortRec) (x : FloorLevel) : Bool :=
  lineActive (.floor x.port) r.inForce.rxInv x.level

/-- The line has stood at a level for 2 character times: in the pulse state that is a BREAK (R123). -/
def PortRec.breakSeen (r : PortRec) (x : FloorLevel) : PortRec :=
  if r.receiving && r.pulse x then
    { r with
      rx := .broken
      partWay := false
      rxTurned := false
      held := none
      count := { r.count.abandon r.rx with breaks := satInc r.count.breaks } }
  else r

/-- The line goes to a level, and so leaves the pulse state if that is the dark one (R123). -/
def PortRec.pulseEnds (r : PortRec) (x : FloorLevel) : PortRec :=
  if r.pulse x then r
  else
    match r.rx with
    | .broken => { r with rx := .hunting }
    | .down => r
    | .hunting | .assembling _ =>
      match r.held with
      | none => r
      | some c => { r with partWay := false, rxTurned := false, held := none }.finishChar c

/-! ### What a port drives (R121, R124, R130) -/

/-- The characters a port is sending, as it drives them under its settings in force. -/
def PortRec.driven (r : PortRec) (p : Port) : List LineChar :=
  match r.tx with
  | .idle => []
  | .sending f _ => (encodeFrame f).map (charLevels p r.inForce)

/-- The level a port drives between characters and between frames. -/
def PortRec.idleDrive (r : PortRec) (p : Port) : Bool := idleLevel p r.inForce

/-! ### Floor transmission (R149) -/

/-- A floor transmitter that is IDLE and UP takes the held reply, else the queue head (R149). -/
def PortRec.chooseTx (r : PortRec) : PortRec :=
  if r.up = true ∧ r.tx = .idle then
    match r.hold, r.downward with
    | some f, _ => { r with hold := none, tx := .sending f true }
    | none, f :: rest => { r with downward := rest, tx := .sending f false }
    | none, [] => r
  else r

/-- A NODE_CMD copy for a floor port (R148). -/
def PortRec.joinDownward (r : PortRec) (f : Frame) : PortRec :=
  if r.up = true ∧ r.downward.length < Config.downwardQueueSize then
    { r with downward := r.downward ++ [f] }.chooseTx
  else { r with router := { r.router with downwardDrop := satInc r.router.downwardDrop } }

/-- The last character of a floor frame has been sent (R130, R142, R149). Where another frame or reply
waits, its choice comes before settings that wait, and the two frames leave no frame boundary between them
(DESIGN CHOICE, log 11). -/
def PortRec.floorSent (r : PortRec) : PortRec :=
  match r.tx with
  | .idle => r
  | .sending _ reply =>
    { r with
      tx := .idle
      owed := r.owed && !reply
      count := { r.count with framesSent := satInc r.count.framesSent } }.chooseTx

/-! ### Loss of signal (R132, R133, R151) -/

/-- The frame a transmitter is sending is a management reply. -/
def TxState.isReply : TxState → Bool
  | .idle => false
  | .sending _ reply => reply

/-- A floor port that was UP loses its signal (R132, R151). A frame being sent is taken as cut off at
once (log 25). -/
def PortRec.goDown (r : PortRec) : PortRec :=
  { r with
    rx := .down
    partWay := false
    rxTurned := false
    held := none
    tx := .idle
    downward := []
    hold := none
    owed := r.owed && !(r.tx.isReply || r.hold.isSome)
    count :=
      { r.count.abandon r.rx with
        transmitAbort := if r.tx = .idle then r.count.transmitAbort else satInc r.count.transmitAbort
        replyDropped := if r.hold.isSome then satInc r.count.replyDropped else r.count.replyDropped }
    router := { r.router with downwardDrop := satAdd r.router.downwardDrop r.downward.length } }

/-- A floor port that was DOWN regains its signal (R133). -/
def PortRec.goUp (r : PortRec) : PortRec := { r with rx := .hunting }.chooseTx

/-- A management reply handed to a floor port (R132, R150). -/
def PortRec.handReply (r : PortRec) (f : Frame) : PortRec :=
  if r.up then { r with hold := some f }.chooseTx
  else { r with owed := false, count := { r.count with replyDropped := satInc r.count.replyDropped } }

/-! ### Settings (R134) -/

/-- Settings wait at a port that is at a frame boundary, no reply to the WRITE that set them being owed on
it (R134). -/
def PortRec.settingsDue (r : PortRec) : Bool :=
  r.waiting.isSome && r.atBoundary && !r.settingsReply

/-- Settings come into force at a port (R134). Its receiver marks a change of the receive inversion. -/
def PortRec.putInForce (r : PortRec) (w : Settings) : PortRec :=
  { r with inForce := w, waiting := none, rxTurned := r.rxTurned || decide (w.rxInv ≠ r.inForce.rxInv) }

/-- A port puts its settings waiting into force if that is due (R134). -/
def PortRec.takeSettings (r : PortRec) : PortRec :=
  if r.settingsDue then r.putInForce (r.waiting.getD r.inForce) else r

/-- Line settings written for a port (R134). `fromU`: the WRITE was taken on this port, which is U. -/
def PortRec.writeSettings (r : PortRec) (w : Settings) (fromU : Bool) : PortRec :=
  if w = r.inForce then r else { r with waiting := some w, settingsReply := r.settingsReply || fromU }

/-! ### The ports of the part -/

/-- A port puts its settings waiting into force if that is due (R134). -/
def State.takeSettings (s : State) (p : Port) : State := s.updPort p PortRec.takeSettings

/-- Loss of signal is asserted on a floor port (R132, R133). -/
def State.signalLost (s : State) (p : FloorPort) : State :=
  if (s.port (.floor p)).up then
    (s.updPort (.floor p) PortRec.goDown).raise (.link (floorIdx p).castSucc .lost)
  else s

/-- Loss of signal is released on a floor port (R133). -/
def State.signalBack (s : State) (p : FloorPort) : State :=
  if (s.port (.floor p)).up then s
  else (s.updPort (.floor p) PortRec.goUp).raise (.link (floorIdx p).castSucc .restored)

end Sys2Proof.Machine
end

