-- ==== Sys2Proof/Machine/Uplink.lean ====
section
/-! DEFINITION. The uplink turn controller (chapter 9) and the answers to POLLs (R115). -/

namespace Sys2Proof.Machine

/-! ### Commits -/

/-- Commit the head of the reply list outside a turn (R157). -/
def State.commitReply (s : State) : State :=
  s.updTurn fun t =>
    match t.state, t.withU, t.replies with
    | .listen, none, r :: rest =>
      { t with state := .replying, replies := rest,
               withU := some { frame := r.frame, source := .reply r.source } }
    | _, _, _ => t

/-- The RELEASE frame as the state stands (R161, 12.4). -/
def State.releaseFrame (s : State) : Frame :=
  { env := ownEnvelope s.unitNo .unit 0 s.turn.tag, kind := FrameKind.release.code,
    payload := [u8 s.pendingSlots, u8 s.turn.fq.length, s.releaseFlags] }

/-- Commit the RELEASE (R161). -/
def State.commitRelease (s : State) : State :=
  s.updTurn fun t => { t with withU := some { frame := s.releaseFrame, source := .release t.silenceSeen } }

/-- Commit a slot's frame in a turn (R160). -/
def State.commitSlot (s : State) (i : Fin 16) : State :=
  (s.slotTaken i).updTurn fun t =>
    { t with withU := some { frame := s.reportFrame i 0, source := .slot i },
             sent := t.sent + 1, run := t.run + 1 }

/-- Commit a reply in a turn (R160). -/
def State.commitTurnReply (s : State) (r : Reply) (rest : List Reply) : State :=
  s.updTurn fun t =>
    { t with replies := rest, withU := some { frame := r.frame, source := .reply r.source },
             sent := t.sent + 1, run := 0 }

/-- Commit a forward-queue frame in a turn (R160). -/
def State.commitForward (s : State) (f : Frame) (rest : List Frame) : State :=
  s.updTurn fun t =>
    { t with fq := rest, withU := some { frame := f, source := .forward }, sent := t.sent + 1, run := 0 }

/-- The lowest-numbered PENDING slot (R159). -/
def State.firstPending (s : State) : Option (Fin 16) :=
  (s.slots.indices fun r => decide (r.state = .pending)).head?

/-- The second and third sources of R159 and the starvation guard; with nothing left, the RELEASE. -/
def State.commitQueued (s : State) : State :=
  match s.turn.fq, s.firstPending with
  | f :: rest, some i =>
    if Config.starvationRun ≤ s.turn.run then s.commitForward f rest else s.commitSlot i
  | f :: rest, none => s.commitForward f rest
  | [], some i => s.commitSlot i
  | [], none => s.commitRelease

/-- A frame opportunity of a turn (R159). -/
def State.frameOpportunity (s : State) : State :=
  if s.turn.budget ≤ s.turn.sent then s.commitRelease
  else
    match s.turn.replies with
    | r :: rest => s.commitTurnReply r rest
    | [] => s.commitQueued

/-! ### GRANT (R158) -/

/-- The budget a GRANT's payload names: clamped to 16, and 0 for an empty payload (R158, R194). -/
def grantBudget : List Byte → Nat
  | [] => 0
  | b :: _ => min Config.maxBudget b.toNat

/-- SILENT ends at a GRANT (R158, R163, R189). -/
def State.endSilence (s : State) : State :=
  if s.turn.silent then
    ((s.updTurn fun t => { t with silent := false }).raise (.link 4 .silenceEnd)).evalCondense
  else s

/-- A frame committed and waiting for U is withdrawn to its source by a GRANT of budget 0; a RELEASE is
withdrawn by any GRANT (R158). -/
def State.withdraw (s : State) (c : Committed) : State :=
  let s := s.updTurn fun t => { t with withU := none }
  match c.source with
  | .reply r => s.updTurn fun t => { t with replies := { frame := c.frame, source := r } :: t.replies }
  | .slot i => s.slotRetry i
  | .forward => s.updTurn fun t => t.takeBack c.frame
  | .release _ => s

/-- A waiting frame that can be the new turn's first (R158). -/
def TxSource.carried : TxSource → Bool
  | .reply _ => true
  | .slot _ => true
  | .forward => true
  | .release _ => false

/-- A report-slot frame (R158, R159). -/
def TxSource.isSlot : TxSource → Bool
  | .slot _ => true
  | .reply _ => false
  | .forward => false
  | .release _ => false

/-- The turn begins, and a frame waiting for U is carried into it or withdrawn (R158). -/
def State.beginTurn (s : State) (budget : Nat) (tag : Byte) : State :=
  let s := s.updTurn fun t =>
    { t with state := .turn, budget := budget, sent := 0, run := 0, tag := tag }
  match s.turn.withU with
  | none => s.frameOpportunity
  | some c =>
    if c.source.carried = true ∧ 1 ≤ budget then
      s.updTurn fun t => { t with sent := 1, run := if c.source.isSlot then 1 else 0 }
    else (s.withdraw c).frameOpportunity

/-- A GRANT is taken (R158). -/
def State.takeGrant (s : State) (f : Frame) : State :=
  ((s.updTurn fun t => { t with silence := 0 }).endSilence).beginTurn (grantBudget f.payload) f.env.tag

/-! ### Replies -/

/-- Hand a reply to the turn controller (R156, R115). -/
def State.joinReplies (s : State) (f : Frame) (src : ReplySource) : State :=
  (s.updTurn fun t => { t with replies := t.replies ++ [{ frame := f, source := src }] }).commitReply

/-- Hand a management reply to the port its request arrived on (R177). -/
def State.handReply (s : State) (p : Port) (f : Frame) (src : ReplySource) : State :=
  match p with
  | .floor _ => s.updPort p fun r => r.handReply f
  | .u => s.joinReplies f src

/-- The MGMT_REPLY that answers a POLL with a status (R115). A POLL has no command, index or count to echo,
and an absent value is sent as 0 (R193; log 8). -/
def State.pollStatus (s : State) (f : Frame) (st : Status) : State :=
  s.joinReplies
    { env := ownEnvelope s.unitNo .unit 0 f.env.tag, kind := FrameKind.mgmtReply.code,
      payload := [0, st.code, 0, 0] } .pollStatus

/-- The answer of a slot to a POLL (R115). -/
def State.pollSlot (s : State) (f : Frame) (i : Fin 16) : State :=
  match (s.slot i).state with
  | .pending | .collecting =>
    if (s.slot i).binding.inhibit then s.pollStatus f .deferred
    else (s.slotTaken i).joinReplies (s.reportFrame i f.env.tag) (.pollReport i)
  | .sending => s.pollStatus f .busy
  | .empty | .idle => s.pollStatus f .nothing

/-- A POLL reaches the report block (R115, R194). -/
def State.takePoll (s : State) (f : Frame) : State :=
  match f.payload with
  | [] => s.pollStatus f .badIndex
  | n :: _ => if h : n.toNat < 16 then s.pollSlot f ⟨n.toNat, h⟩ else s.pollStatus f .badIndex

/-! ### Outcomes on U -/

/-- U takes the line and begins the frame handed to it (R131). The moment is the sender's: U_TRANSMIT_START is
never due, other commands may come before it, and U receives until it comes (DESIGN CHOICE, log 31). -/
def State.uStarts (s : State) : State :=
  let r := s.port .u
  match s.turn.withU with
  | none => s
  | some c => if r.atBoundary then s.setPort .u { r with tx := .sending c.frame false } else s

/-- A reply is reported sent or is lost: what was owed ends (R156, R134, R185). -/
def State.replyEnds (s : State) (src : ReplySource) : State :=
  let free := fun r : PortRec => { r with owed := false, settingsReply := false }
  match src with
  | .mgmt => s.updPort .u free
  | .restart => (s.updPort .u free).setDue { s.due with restart := true }
  | .pollReport _ => s
  | .pollStatus => s

/-- U's transmitter becomes IDLE and its receiver HUNTING (R131). -/
def PortRec.uReleased (r : PortRec) : PortRec :=
  { r with tx := .idle, rx := .hunting, partWay := false, rxTurned := false, held := none }

/-- The turn controller after a frame of a turn, or a reply outside one, was sent (R157, R160). -/
def State.afterSent (s : State) : State :=
  if s.due.restart then s
  else
    match s.turn.state with
    | .turn => s.frameOpportunity
    | .replying | .listen => (s.updTurn fun t => { t with state := .listen }).commitReply

/-- The source of a frame reported sent (R112, R157, R160, R161). -/
def State.settleSent (s : State) (src : TxSource) : State :=
  match src with
  | .reply (.pollReport i) => (s.slotSent i).afterSent
  | .reply r => (s.replyEnds r).afterSent
  | .slot i => (s.slotSent i).afterSent
  | .forward => s.afterSent
  | .release seen =>
    (s.updTurn fun t =>
      { t with state := .listen, silenceSeen := t.silenceSeen && !seen }).commitReply

/-- Every character of U's frame passed its echo check (R131). -/
def State.uSent (s : State) : State :=
  match (s.port .u).tx, s.turn.withU with
  | .sending _ _, some c =>
    let s := s.updPort .u fun r => r.uReleased.counted fun k => { k with framesSent := satInc k.framesSent }
    (s.updTurn fun t => { t with withU := none }).settleSent c.source
  | _, _ => s

/-- The source of a frame lost by collision (R113, R114, R157, R162). -/
def State.settleCollision (s : State) (src : TxSource) : State :=
  match src with
  | .reply (.pollReport i) => s.slotCollision i
  | .reply r => s.replyEnds r
  | .slot i => s.slotCollision i
  | .forward => s.updTurn fun t => { t with forwardDrop := satInc t.forwardDrop }
  | .release _ => s

/-- The echo check fails on a character of U's frame: the frame is reported as a collision (R131,
R157, R162). -/
def State.uCollides (s : State) : State :=
  match s.turn.withU with
  | none => s
  | some c =>
    let s := s.updPort .u PortRec.uReleased
    let s := s.updTurn fun t =>
      { t with withU := none, state := .listen, collisions := satInc t.collisions }
    let s := s.settleCollision c.source
    if s.due.restart then s else s.commitReply

/-- The characters U is sending. -/
def State.uSending (s : State) : List Byte :=
  match (s.port .u).tx with
  | .idle => []
  | .sending f _ => encodeFrame f

/-- The read-back of character `pos` fails the echo check (R131). -/
def State.echoFailsAt (s : State) (pos : Nat) (back : LineChar) : Bool :=
  let st := (s.port .u).inForce
  match s.uSending[pos]? with
  | none => false
  | some c => echoFails st.parity c (readLine .u st back)

/-! ### Silence (R163) -/

/-- The turn controller after a seconds tick (R163). -/
def Turn.ticked (t : Turn) : Turn :=
  if t.silent then t else { t with silence := min (t.silence + 1) 65535 }

/-- SILENT is entered (R163, R164, R189). -/
def State.enterSilent (s : State) : State :=
  (((s.updTurn fun t => { t with silent := true, silenceSeen := true }).setDue
    { s.due with silence := false }).raise (.link 4 .silence)).evalCondense

end Sys2Proof.Machine
end

