-- ==== Sys2Proof/Machine/Tables.lean ====
section
/-! DEFINITION. What an accepted WRITE, EXCHANGE, SVT_LOAD, commit or CLEAR does to its target (R5, R30,
R33, R62, R79, R81, R82, R109, R184, R187). -/

namespace Sys2Proof.Machine

/-! ### WRITE -/

/-- The bytes of a table's write form; 0 where there is none (R179). -/
def Table.writeSize (t : Table) (i : Nat) : Nat :=
  match t with
  | .sdt => 16
  | .svtActive => 0
  | .svtShadow => 0
  | .sft => 10
  | .thr => 8
  | .zone => 1
  | .slot => 4
  | .config =>
    match i with
    | 0 => 2
    | 1 => 1
    | _ => 5

/-- Store an SDT entry, or refuse it (R4, R5). -/
def State.writeDesc (s : State) (sel : Selector) (data : List Byte) : Except Status State :=
  match readSdtEntry data with
  | none => .error .badValue
  | some c => .ok (s.storeDesc sel c)

/-- The checks of R80 on a written SFT entry: `none` where it is refused. -/
def State.checkSft (s : State) (i : Fin 64) (data : List Byte) : Option (Option SurfaceConfig) :=
  match readSftEntry data with
  | none => none
  | some none => some none
  | some (some c) => if s.sftAdmits i c then some (some c) else none

/-- Write a surface record (R80, R81). -/
def State.writeSurface (s : State) (i : Fin 64) (data : List Byte) : Except Status State :=
  match s.checkSft i data with
  | none => .error .badValue
  | some c => .ok (s.storeSurface i (s.writtenSurface i c))

/-- Exchange a surface record (R80, R82). -/
def State.exchangeSurface (s : State) (i : Fin 64) (data : List Byte) : Except Status State :=
  match s.checkSft i data with
  | none => .error .badValue
  | some c => .ok (s.storeSurface i (s.exchangedSurface i c))

/-- Write a threshold set (R79). -/
def State.writeThrSet (s : State) (i : Fin 8) (data : List Byte) : Except Status State :=
  match readThrEntry data with
  | none => .error .badValue
  | some t => .ok (s.setThr (s.thr.set i t))

/-- Write a zone's configuration (R62). -/
def State.writeZoneConfig (s : State) (z : Fin 32) (data : List Byte) : Except Status State :=
  match readZoneEntry data with
  | none => .error .badValue
  | some (summary, fallback) =>
    .ok (s.updZone z fun r => { r with summary := summary, fallback := fallback })

/-- A slot after its binding was written (R109): with no kind accepted it is IDLE with every binding
field zero and LOST and FAILED clear; otherwise it is EMPTY under the new binding. -/
def Slot.rebound (r : Slot) (b : SlotBinding) : Slot :=
  if b.kinds = 0 then { r with binding := .zero, state := .idle, lost := false, failed := false }
  else { r with binding := b, state := .empty }

/-- Write a slot binding: BUSY unless the slot is IDLE or EMPTY (R109). -/
def State.writeSlotBinding (s : State) (i : Fin 16) (data : List Byte) : Except Status State :=
  if (s.slot i).state = .idle ∨ (s.slot i).state = .empty then
    match readSlotEntry data with
    | none => .error .badValue
    | some b => .ok (s.setSlot i ((s.slot i).rebound b))
  else .error .busy

/-- Write the epoch length: the count returns to 0 (R65, R187). -/
def State.writeEpoch (s : State) (data : List Byte) : Except Status State :=
  match data with
  | [a, b] =>
    if 10 ≤ nat16 a b ∧ nat16 a b ≤ 600 then
      .ok ((s.setConfig { s.config with epochLength := nat16 a b }).setEpochCount 0)
    else .error .badValue
  | _ => .error .badValue

/-- Write the silence limit (R163, R187). -/
def State.writeSilence (s : State) (data : List Byte) : Except Status State :=
  match data with
  | [a] =>
    if 2 ≤ a.toNat ∧ a.toNat ≤ 60 then .ok (s.setConfig { s.config with silenceLimit := a.toNat })
    else .error .badValue
  | _ => .error .badValue

/-- Hand a port its part of written line settings (R134, R187). -/
def State.giveSettings (s : State) (t : Tbl 5 Settings) (arrival : Port) (i : Fin 5) : State :=
  s.setPorts (s.ports.set i
    ((s.ports.get i).writeSettings (t.get i) (decide (arrival = .u) && decide (i = 4))))

/-- Write the line settings, taken on a port (R134, R187). -/
def State.writeLines (s : State) (arrival : Port) (data : List Byte) : Except Status State :=
  match readLinesEntry data with
  | none => .error .badValue
  | some t =>
    .ok ((List.finRange 5).foldl (fun s i => s.giveSettings t arrival i)
      (s.setConfig { s.config with lines := t }))

/-- Write the entry of a table at an index inside it (R180). -/
def State.writeEntry (s : State) (t : Table) (arrival : Port) (i : Byte) (data : List Byte) :
    Except Status State :=
  match t with
  | .sdt => s.writeDesc i data
  | .svtActive => .error .illegalForm
  | .svtShadow => .error .illegalForm
  | .sft => if h : i.toNat < 64 then s.writeSurface ⟨i.toNat, h⟩ data else .error .badIndex
  | .thr => if h : i.toNat < 8 then s.writeThrSet ⟨i.toNat, h⟩ data else .error .badIndex
  | .zone => if h : i.toNat < 32 then s.writeZoneConfig ⟨i.toNat, h⟩ data else .error .badIndex
  | .slot => if h : i.toNat < 16 then s.writeSlotBinding ⟨i.toNat, h⟩ data else .error .badIndex
  | .config =>
    match i.toNat with
    | 0 => s.writeEpoch data
    | 1 => s.writeSilence data
    | 2 => s.writeLines arrival data
    | _ => .error .badIndex

/-- Exchange the entry of a table at an index inside it; the data of the reply (R181). -/
def State.exchangeEntry (s : State) (t : Table) (i : Byte) (data : List Byte) :
    Except Status (State × List Byte) :=
  match t with
  | .sft =>
    if h : i.toNat < 64 then
      (s.exchangeSurface ⟨i.toNat, h⟩ data).map fun s' =>
        (s', exchangeSnapshot (s.surface ⟨i.toNat, h⟩))
    else .error .badIndex
  | .thr =>
    if h : i.toNat < 8 then
      (s.writeThrSet ⟨i.toNat, h⟩ data).map fun s' => (s', thrWriteForm (s.thr.get ⟨i.toNat, h⟩))
    else .error .badIndex
  | _ => .error .illegalForm

/-! ### The saturation table -/

/-- A list with entries written from an index on (R30). -/
def overwrite (cells : List SvtEntry) (start : Nat) (es : List SvtEntry) : List SvtEntry :=
  match cells, start, es with
  | [], _, _ => []
  | cells, _, [] => cells
  | _ :: cs, 0, e :: es => e :: overwrite cs 0 es
  | c :: cs, k + 1, e :: es => c :: overwrite cs k (e :: es)

/-- Overwriting keeps the number of entries. -/
theorem overwrite_length (cells : List SvtEntry) (start : Nat) (es : List SvtEntry) :
    (overwrite cells start es).length = cells.length := by
  induction cells, start, es using overwrite.induct <;> simp_all [overwrite]

/-- A bank after a load (R30). -/
def Bank.load (b : Bank) (start : Nat) (es : List SvtEntry) : Bank :=
  ⟨overwrite b.cells start es, by rw [overwrite_length]; exact b.size⟩

/-- An accepted SVT_LOAD (R30). -/
def State.loadShadow (s : State) (start : Nat) (es : List SvtEntry) : State :=
  s.setSvt { s.svt with shadow := Bank.load s.svt.shadow start es, shadowState := .dirty }

/-- A passing commit check: the banks exchange roles under a new generation (R33). -/
def State.swapBanks (s : State) : State :=
  s.setSvt { active := s.svt.shadow, shadow := s.svt.active, shadowState := .previous,
             gen := s.svt.gen + 1 }

/-! ### CLEAR (R184) -/

/-- CLEAR COUNTERS (R22, R116, R135, R152, R169, R184). -/
def State.zeroCounters (s : State) : State :=
  ((((s.setSdt (s.sdt.map fun d => { d with formatRejects := 0, plausibilityRejects := 0 })).setCounters
    .zero).setPorts (s.ports.map fun r => { r with count := .zero, router := .zero })).setSlots
    (s.slots.map fun r => { r with sent := 0 })).setTurn
    { s.turn with collisions := 0, requestOverrun := 0, forwardDrop := 0 }

/-- CLEAR ACCESSED (R21). -/
def State.clearAccessed (s : State) : State :=
  s.setSdt (s.sdt.map fun d => { d with accessed := false })

/-- CLEAR SLOT_FLAGS (R116). -/
def State.clearSlotFlags (s : State) : State :=
  s.setSlots (s.slots.map fun r => { r with lost := false, failed := false })

/-- CLEAR SURFACE_COUNTS (R98). -/
def State.clearSurfaceCounts (s : State) : State :=
  s.setSurfaces (s.surfaces.map fun r => { r with changes := 0 })

/-- CLEAR ZONE_FLAGS (R74). -/
def State.clearZoneFlags (s : State) : State :=
  s.setZones (s.zones.map fun r => { r with overrun := false })

/-- CLEAR ALARM (R108, R189). -/
def State.clearAlarm (s : State) : State := (s.setAlarmLoss false).evalCondense

/-- A CLEAR of a target (R184). -/
def State.clear (s : State) : Target → State
  | .counters => s.zeroCounters
  | .accessed => s.clearAccessed
  | .slotFlags => s.clearSlotFlags
  | .surfaceCounts => s.clearSurfaceCounts
  | .zoneFlags => s.clearZoneFlags
  | .alarm => s.clearAlarm

end Sys2Proof.Machine
end

