-- ==== Sys2Proof/Machine/Management.lean ====
section
/-! DEFINITION. The management engine (chapter 10): the take with its seven steps, the answers, and the
completions. -/

namespace Sys2Proof.Machine

/-- The four fixed fields and the data of a request that is long enough (12.5). -/
structure Args where
  cmd : Byte
  table : Byte
  index : Byte
  count : Byte
  data : List Byte
deriving DecidableEq, Repr

/-- The fields of a payload; `none` where it is shorter than the four fixed bytes (R174, step 1). -/
def readArgs : List Byte → Option Args
  | cmd :: table :: index :: count :: data =>
    some { cmd := cmd, table := table, index := index, count := count, data := data }
  | _ => none

/-- What a reply says besides the command it echoes. -/
structure Answer where
  status : Status
  index : Byte
  count : Byte
  data : List Byte
deriving DecidableEq, Repr

/-- A reply that echoes the request's index and count and carries no data (R177). -/
def Args.echo (a : Args) (st : Status) : Answer :=
  { status := st, index := a.index, count := a.count, data := [] }

/-- The answer to a payload as far as it goes: a field it is too short to hold is 0 (R177). -/
def echoPayload (payload : List Byte) (st : Status) : Answer :=
  { status := st, index := payload.getD 2 0, count := payload.getD 3 0, data := [] }

/-- The header of a reply (R177). -/
def replyEnvelope (own : BitVec 4) (q : Request) : Envelope :=
  match q.port with
  | .u => ownEnvelope own .unit 0 q.tag
  | .floor p => ownEnvelope own (floorScope p) q.srcNode q.tag

/-- A MGMT_REPLY frame (R177, 12.5). -/
def State.replyFrame (s : State) (q : Request) (a : Answer) : Frame :=
  { env := replyEnvelope s.unitNo q, kind := FrameKind.mgmtReply.code,
    payload := [q.payload.getD 0 0, a.status.code, a.index, a.count] ++ a.data }

/-! ### Levels (R175, R176) -/

/-- The port level (R175). -/
def portLevel (p : Port) (commission : Bool) : Nat :=
  match p with
  | .floor _ => 3
  | .u => if commission then 0 else 1

/-- The effective level: the numerically larger of the port level and the RPL (R176). -/
def effectiveLevel (p : Port) (commission : Bool) (rpl : BitVec 2) : Nat :=
  max (portLevel p commission) rpl.toNat

/-- Write levels of the tables (R176). -/
def Table.writeLevel : Table → Nat
  | .sdt => 0 | .svtActive => 0 | .svtShadow => 0 | .config => 0
  | .sft => 1 | .thr => 1 | .zone => 1 | .slot => 1

/-- The read level of every table and subject (R176). -/
def readLevel : Nat := 3

/-- The level of SVT_LOAD, SVT_COMMIT and RESTART (R176). -/
def commandLevel : Nat := 0

/-- Levels of the CLEAR targets (R176). -/
def Target.level : Target → Nat
  | .alarm => 1
  | .counters => 2 | .accessed => 2 | .slotFlags => 2 | .surfaceCounts => 2 | .zoneFlags => 2

/-! ### The commands -/

/-- READ (R174, R179). -/
def State.readAnswer (s : State) (level : Nat) (a : Args) : Answer :=
  match Table.ofCode a.table.toNat with
  | none => a.echo .badTable
  | some t =>
    if readLevel < level then a.echo .denied
    else if a.data ≠ [] then a.echo .malformed
    else if t.hasIndex a.index.toNat then
      let n := t.readCount a.index.toNat a.count.toNat
      { status := .ok, index := a.index, count := u8 n, data := s.readEntries t a.index.toNat n }
    else a.echo .badIndex

/-- QUERY (R174, R183). -/
def State.queryAnswer (s : State) (level : Nat) (a : Args) : Answer :=
  match Subject.ofCode a.table.toNat with
  | none => a.echo .badTable
  | some subject =>
    if readLevel < level then a.echo .denied
    else if a.data ≠ [] then a.echo .malformed
    else
      match s.queryRecord subject a.index with
      | none => a.echo .badIndex
      | some record => { status := .ok, index := a.index, count := 1, data := record }

/-- The count, length and index checks of WRITE and EXCHANGE (R180, R181); `none` where they pass. -/
def writeChecks (t : Table) (a : Args) : Option Status :=
  if a.count ≠ 1 then some .malformed
  else if t = .config ∧ 2 < a.index.toNat then some .badIndex
  else if a.data.length ≠ t.writeSize a.index.toNat then some .malformed
  else if t.hasIndex a.index.toNat = false then some .badIndex
  else none

/-- WRITE (R174, R180): the state after it, and the answer. -/
def State.writeAnswer (s : State) (p : Port) (level : Nat) (a : Args) : State × Answer :=
  match Table.ofCode a.table.toNat with
  | none => (s, a.echo .badTable)
  | some t =>
    if t = .svtActive ∨ t = .svtShadow then (s, a.echo .illegalForm)
    else if t.writeLevel < level then (s, a.echo .denied)
    else
      match writeChecks t a with
      | some st => (s, a.echo st)
      | none =>
        match s.writeEntry t p a.index a.data with
        | .error st => (s, a.echo st)
        | .ok s' => (s', a.echo .ok)

/-- EXCHANGE (R174, R181). -/
def State.exchangeAnswer (s : State) (level : Nat) (a : Args) : State × Answer :=
  match Table.ofCode a.table.toNat with
  | none => (s, a.echo .badTable)
  | some t =>
    if t ≠ .sft ∧ t ≠ .thr then (s, a.echo .illegalForm)
    else if t.writeLevel < level then (s, a.echo .denied)
    else
      match writeChecks t a with
      | some st => (s, a.echo st)
      | none =>
        match s.exchangeEntry t a.index a.data with
        | .error st => (s, a.echo st)
        | .ok (s', data) => (s', { a.echo .ok with data := data })

/-- SVT_LOAD (R29 to R31, R182). -/
def State.loadAnswer (s : State) (level : Nat) (a : Args) : State × Answer :=
  if commandLevel < level then (s, a.echo .denied)
  else if a.count.toNat < 1 ∨ 14 < a.count.toNat ∨ a.data.length ≠ 3 * a.count.toNat then
    (s, a.echo .malformed)
  else if s.interlocked then (s, a.echo .busy)
  else if 251 < a.index.toNat + a.count.toNat then (s, a.echo .badIndex)
  else (s.loadShadow a.index.toNat (readSvtEntries a.data), a.echo .ok)

/-- The refusal of an SVT_COMMIT; `none` where its check begins (R31, R32, R182). -/
def State.commitRefusal (s : State) (level : Nat) (a : Args) : Option Status :=
  if commandLevel < level then some .denied
  else if a.count ≠ 0 ∨ a.data ≠ [] then some .malformed
  else if s.interlocked then some .busy
  else none

/-- The refusal of a RESTART; `none` where it is taken (R174, R185). -/
def restartRefusal (level : Nat) (a : Args) : Option Status :=
  if commandLevel < level then some .denied
  else if a.count ≠ 0 ∨ a.data ≠ [] then some .malformed
  else none

/-- CLEAR (R184). -/
def State.clearAnswer (s : State) (level : Nat) (a : Args) : State × Answer :=
  match Target.ofCode a.table.toNat with
  | none => (s, a.echo .badTable)
  | some target =>
    if target.level < level then (s, a.echo .denied)
    else if a.data ≠ [] then (s, a.echo .malformed)
    else (s.clear target, a.echo .ok)

/-! ### The take -/

/-- The engine serves a request: it holds it with its reply, until the completion (R172). -/
def State.serve (s : State) (q : Request) (r : State × Answer) : State :=
  r.1.setMgmt (.serving q (s.replyFrame q r.2))

/-- The check of an SVT_COMMIT begins, or its refusal is served (R32, R172). -/
def State.beginCommit (s : State) (q : Request) (a : Args) : State :=
  match s.commitRefusal q.level a with
  | some st => s.serve q (s, a.echo st)
  | none => s.setMgmt (.committing q)

/-- A RESTART is taken and its OK reply handed over at once, or its refusal is served (R172, R185). -/
def State.beginRestart (s : State) (q : Request) (a : Args) : State :=
  match restartRefusal q.level a with
  | some st => s.serve q (s, a.echo st)
  | none => (s.setMgmt (.restarting q)).handReply q.port (s.replyFrame q (a.echo .ok)) .restart

/-- An IDLE engine takes a request (R172, R174). -/
def State.take (s : State) (q : Request) : State :=
  match readArgs q.payload with
  | none => s.serve q (s, echoPayload q.payload .malformed)
  | some a =>
    match Command.ofCode a.cmd.toNat with
    | none => s.serve q (s, a.echo .malformed)
    | some .read => s.serve q (s, s.readAnswer q.level a)
    | some .write => s.serve q (s.writeAnswer q.port q.level a)
    | some .exchange => s.serve q (s.exchangeAnswer q.level a)
    | some .svtLoad => s.serve q (s.loadAnswer q.level a)
    | some .svtCommit => s.beginCommit q a
    | some .query => s.serve q (s, s.queryAnswer q.level a)
    | some .clear => s.serve q (s.clearAnswer q.level a)
    | some .restart => s.beginRestart q a

/-- The request a MGMT_REQ frame makes, its levels fixed at the take (R172, R175, R176). -/
def State.requestOf (s : State) (p : Port) (f : Frame) : Request :=
  { port := p, tag := f.env.tag, srcNode := f.env.srcNode,
    level := effectiveLevel p s.pins.commission f.env.rpl, payload := f.payload }

/-- A MGMT_REQ reaches the engine: taken if it is IDLE, else answered BUSY at once (R172, R173). -/
def State.request (s : State) (p : Port) (f : Frame) : State :=
  match s.mgmt with
  | .idle => s.take (s.requestOf p f)
  | _ => s.handReply p (s.replyFrame (s.requestOf p f) (echoPayload f.payload .busy)) .mgmt

/-! ### Completions -/

/-- Serving ends: the reply is handed over (R172, R177). -/
def State.serviceEnds (s : State) : State :=
  match s.mgmt with
  | .serving q f => (s.setMgmt .idle).handReply q.port f .mgmt
  | _ => s

/-- The answer of a failing commit check (R34). -/
def notCommitted (payload : List Byte) (i : Nat) (gen : BitVec 8) : Answer :=
  { echoPayload payload .notCommitted with index := u8 i, data := [gen] }

/-- The answer of a passing commit check, with the new generation (R33). -/
def committed (payload : List Byte) (gen : BitVec 8) : Answer :=
  { echoPayload payload .ok with data := [gen] }

/-- The commit check completes (R33, R34). -/
def State.commitEnds (s : State) : State :=
  match s.mgmt with
  | .committing q =>
    match Bank.failure s.svt.shadow with
    | none =>
      (s.swapBanks.setMgmt .idle).handReply q.port
        (s.replyFrame q (committed q.payload (s.svt.gen + 1))) .mgmt
    | some i =>
      (s.setMgmt .idle).handReply q.port (s.replyFrame q (notCommitted q.payload i s.svt.gen)) .mgmt
  | _ => s

end Sys2Proof.Machine
end

