-- ==== Sys2Proof/Machine/Router.lean ====
section
/-! DEFINITION. The frame router (chapter 8). -/

namespace Sys2Proof.Machine

/-- A floor frame as the router hands it on: source unit and source scope rewritten (R139). -/
def rewriteSource (own : BitVec 4) (p : FloorPort) (f : Frame) : Frame :=
  { f with env := { f.env with srcUnit := own, srcScope := floorScope p } }

/-- Count a misdirected frame (R140, R141, R143, R147). -/
def State.misdirect (s : State) (p : Port) : State :=
  s.countRouter p fun k => { k with misdirected := satInc k.misdirected }

/-- Count a frame of unknown kind (R143, R147). -/
def State.unknownKind (s : State) (p : Port) : State :=
  s.countRouter p fun k => { k with unknownKind := satInc k.unknownKind }

/-- A SAMPLE from a floor port (R140). -/
def State.routeSample (s : State) (p : FloorPort) (f : Frame) : State :=
  if f.env.srcNode = 0 then s.misdirect (.floor p)
  else s.sampleArrives (floorSelector p f.env.srcNode) f

/-- A NODE_STATUS from a floor port (R141). -/
def State.routeNodeStatus (s : State) (p : FloorPort) (f : Frame) : State :=
  if f.env.srcNode = 0 then s.misdirect (.floor p)
  else if (s.desc (floorSelector p f.env.srcNode)).config.isSome then s.offerFq f
  else s.count fun c => { c with unknownSource := satInc c.unknownSource }

/-- A MGMT_REQ on a port: dropped as an overrun while a reply is owed on the port, else handed to the
engine (R142, R147, R156). -/
def State.routeRequest (s : State) (p : Port) (f : Frame) : State :=
  if (s.port p).owed then
    match p with
    | .floor _ => s.countRouter p fun k => { k with requestOverrun := satInc k.requestOverrun }
    | .u => s.updTurn fun t => { t with requestOverrun := satInc t.requestOverrun }
  else (s.updPort p fun r => { r with owed := true }).request p f

/-- The floor ports a NODE_CMD's scope names (R146). -/
def scopePorts : Scope → List FloorPort
  | .f0 => [.f0] | .f1 => [.f1] | .f2 => [.f2] | .f3 => [.f3]
  | .allfloor => floorPorts
  | .unit => []

/-- The copies of a NODE_CMD (R148). -/
def State.routeNodeCmd (s : State) (f : Frame) : State :=
  (scopePorts f.env.dstScope).foldl (fun s p => s.updPort (.floor p) fun r => r.joinDownward f) s

/-- Route a good frame from a floor port (R139 to R143). -/
def State.routeFloor (s : State) (p : FloorPort) (f : Frame) : State :=
  let f := rewriteSource s.unitNo p f
  match floorRow f with
  | .sample => s.routeSample p f
  | .nodeStatus => s.routeNodeStatus p f
  | .mgmt _ => s.routeRequest (.floor p) f
  | .unknownKind => s.unknownKind (.floor p)
  | .misdirected => s.misdirect (.floor p)
  | .foreign | .nodeCmd | .grant | .poll => s

/-- Route a good frame from U (R145 to R147). -/
def State.routeSupervisor (s : State) (f : Frame) : State :=
  match supervisorRow s.unitNo f with
  | .foreign => s
  | .grant => s.takeGrant f
  | .poll => s.takePoll f
  | .nodeCmd => s.routeNodeCmd f
  | .mgmt _ => s.routeRequest .u f
  | .unknownKind => s.unknownKind .u
  | .misdirected => s.misdirect .u
  | .sample | .nodeStatus => s

/-- Route a good frame that completed on a port (R129). -/
def State.routeFrame (s : State) (p : Port) (f : Frame) : State :=
  match p with
  | .floor q => s.routeFloor q f
  | .u => s.routeSupervisor f

end Sys2Proof.Machine
end

