-- ==== Sys2Proof/Machine/Reset.lean ====
section
/-! DEFINITION. Power-on, RESET, the loss of supply and the effect of RESTART (chapter 11, R185). -/

namespace Sys2Proof.Machine

/-- The power-on sequence, with the straps' levels (R191). -/
def State.powerUp (s : State) (straps : BitVec 3) : State :=
  ((State.powerOnValues s.pins (straps.setWidth 4 + 1) s.pending).evalCondense.raiseStart false).raiseDark

/-- A port while RESET is asserted: nothing is received or transmitted, and what was under way is
abandoned without a count (R191). -/
def PortRec.quiet (r : PortRec) : PortRec :=
  { r with
    rx := if r.up then .hunting else .down
    partWay := false, rxTurned := false, held := none, buffer := none, tx := .idle, hold := none, owed := false,
    settingsReply := false }

/-- RESET is asserted (R191): a frame in reception or transmission, a job in flight, a commit check, a
pending RESTART and every reply not yet sent are abandoned, and CONDENSE is off. What the rule does not
name stays until the power-on sequence (log 17). -/
def State.enterReset (s : State) : State :=
  { s with
    power := if s.power = .unpowered then .unpowered else .inReset
    ports := s.ports.map PortRec.quiet
    job := none
    mgmt := .idle
    turn := { s.turn with replies := [], withU := none }
    condense := false
    due := { silence := false, restart := false } }

/-- The supply is removed: nothing is kept without it (R190; log 17). -/
def State.loseSupply (s : State) : State :=
  { State.powerOnValues s.pins s.unitNo s.pending with power := .unpowered }

/-! ### RESTART -/

/-- A descriptor after a RESTART (R21, R22, R25, R60). A VACANT one keeps its version and takes the other
values of R25 too: R60 makes its Td invalid, and of its flags and other last values no rule speaks (DESIGN
CHOICE, log 26). -/
def Descriptor.restarted (d : Descriptor) : Descriptor :=
  { Descriptor.powerOn with config := d.config, version := d.version }

/-- A zone record after a RESTART, before it is encoded again (R76). -/
def Zone.restarted (r : Zone) : Zone :=
  { Zone.powerOn with summary := r.summary, fallback := r.fallback }

/-- A surface record after a RESTART (R100). -/
def Surface.restarted (r : Surface) : Surface :=
  { Surface.powerOn with config := r.config, version := r.version }

/-- A slot after a RESTART (R118). -/
def Slot.restarted (r : Slot) : Slot :=
  { Slot.idle with binding := r.binding, state := if r.state = .idle then .idle else .empty }

/-- A port after a RESTART: a floor frame being sent is finished, but the reply it may be is no longer
what is owed (R137, R154). A character held undecided is discarded without a count, any other that a port
is part way through goes on (DESIGN CHOICE, log 27). -/
def PortRec.restarted (r : PortRec) : PortRec :=
  { r with
    rx := if r.up then .hunting else .down
    partWay := r.partWay && r.held.isNone
    held := none
    buffer := none
    tx :=
      match r.tx with
      | .idle => .idle
      | .sending f _ => .sending f false
    count := .zero
    router := .zero
    downward := []
    hold := none
    owed := false
    settingsReply := false }

/-- Every zone's worst grade encoded again (R72, R76). -/
def State.reencodeAll (s : State) : State := (List.finRange 32).foldl State.reencode s

/-- Every block's restart values (R185 and the rules its table names). The silence limit, the epoch
length and the line settings are kept with the configuration record. -/
def State.restartValues (s : State) : State :=
  { s with
    ports := s.ports.map PortRec.restarted
    sdt := s.sdt.map Descriptor.restarted
    evalQueue := []
    zoneClose := Tbl.fill 32 none
    job := none
    zones := s.zones.map Zone.restarted
    epochCount := 0
    surfaces := s.surfaces.map Surface.restarted
    slots := s.slots.map Slot.restarted
    alarmLoss := false
    counters := .zero
    turn := .powerOn
    mgmt := .idle
    due := { silence := false, restart := false } }

/-- A RESTART takes effect (R185, R192): the restart values, the zones, the CONDENSE line, the WARM
START event, the LINK_LOST events of dark ports. -/
def State.restartEffect (s : State) : State :=
  ((s.restartValues.reencodeAll.evalCondense).raiseStart true).raiseDark

end Sys2Proof.Machine
end

