-- ==== Sys2Proof/Machine/Settle.lean ====
section
/-! DEFINITION. What is due at the moment another step ended, and is carried out before the next one
(00_scope, "Time and events"; log 1): settings that wait at a frame boundary, completed frames, a RESTART,
sensors whose age has reached its limit, the epoch, SILENT. The begin of a frame on U is not among them
(log 31). -/

namespace Sys2Proof.Machine

/-- The five ports in ascending order. -/
def allPorts : List Port := [.floor .f0, .floor .f1, .floor .f2, .floor .f3, .u]

/-- The frame in a port's completed-frame buffer is handed to the router (R129). -/
def State.routeBuffered (s : State) (p : Port) : State :=
  match (s.port p).buffer with
  | none => s
  | some f => (s.updPort p fun r => { r with buffer := none }).routeFrame p f

/-- Hand on every completed frame, in ascending port order. -/
def State.routeAll (s : State) : State := allPorts.foldl State.routeBuffered s

/-- The RESTART takes effect if its reply has gone (R185). -/
def State.restartIfDue (s : State) : State := if s.due.restart then s.restartEffect else s

/-- Every sensor whose expiry is due goes STALE, in ascending order (R16). -/
def State.staleAll (s : State) : State := s.staleSelectors.foldl State.goStale s

/-- A tick has brought the epoch timer's count to the epoch length (R65). -/
def State.epochDue (s : State) : Bool := decide (s.config.epochLength ≤ s.epochCount)

/-- The epoch expires if it is due (R65, R66). -/
def State.epochIfDue (s : State) : State := if s.epochDue then s.epochExpires else s

/-- SILENT is entered if a tick has brought the counter to the limit (R163). -/
def State.silenceIfDue (s : State) : State := if s.due.silence then s.enterSilent else s

/-- Waiting settings take effect at every port that is at a frame boundary (R134). -/
def State.settingsAll (s : State) : State := allPorts.foldl State.takeSettings s

/-- Carry out everything that is due (log 1). What is carried out can leave settings waiting at a boundary,
so they are looked at again at the end. -/
def State.settle (s : State) : State :=
  s.settingsAll.routeAll.restartIfDue.staleAll.epochIfDue.silenceIfDue.settingsAll

/-- A seconds tick (R16, R65, R163): ages, the epoch timer's count, the silence counter. -/
def State.tick (s : State) : State :=
  let s := s.setSdt (s.sdt.map Descriptor.ticked)
  let s := s.setEpochCount (s.epochCount + 1)
  let t := s.turn.ticked
  (s.setTurn t).setDue
    { s.due with silence := !s.turn.silent && decide (s.config.silenceLimit ≤ t.silence) }

end Sys2Proof.Machine
end

