-- ==== Sys2Proof/Machine/Commands.lean ====
section
/-! DEFINITION. What the meanings share: a step of the running part, and the arrival of a frame. -/

namespace Sys2Proof.Machine

/-- What a command answers. -/
abbrev Outcome := Host.Outcome State Fault Refusal

/-- A step of the running part that brings a pin level: what is due is carried out under the level before,
then comes the level, then the step. A part held in reset or without
supply only follows the pin (R190, R191; log 1, log 5, log 17). -/
def State.actOn (s : State) (pin f : State → State) : Outcome :=
  .next (if s.running then f (pin s.settle) else pin s)

/-- A step of the running part: what is due first, then the step (log 1, log 17). -/
def State.act (s : State) (f : State → State) : Outcome := s.actOn id f

/-- A step that carries out one of the things that are due, ahead of the others (log 1). -/
def State.actDue (s : State) (due : Bool) (f : State → State) : Outcome :=
  .next (if s.running && due then f s else s)

/-- A good frame can complete on a port and belongs to a row of the opcode table (log 2). -/
def State.arrives (s : State) (p : Port) (f : Frame) (row : FrameRow) : Bool :=
  s.hears p && decide (frameRow s.unitNo p f = row)

/-- A good frame reaches the router from a port, at an event that may bring a pin level. Where the frame
waits in the port's buffer, handing it on is already due, under the level of its completion (R129; log 4). A
frame that is not of the row, or that the port cannot have received, does not arrive (log 2). -/
def State.actFrameAt (s : State) (pin : State → State) (p : Port) (f : Frame) (row : FrameRow) : Outcome :=
  let handedOn := decide ((s.port p).buffer = some f)
  s.actOn pin fun t => if !handedOn && t.arrives p f row then t.routeFrame p f else t

/-- A good frame reaches the router from a port. -/
def State.actFrame (s : State) (p : Port) (f : Frame) (row : FrameRow) : Outcome := s.actFrameAt id p f row

/-- The level of the COMMISSION input at an event (R175; log 5). -/
def State.setCommission (level : Bool) (s : State) : State :=
  s.setPins { s.pins with commission := level }

/-- The level of a loss-of-signal input (R132). -/
def State.setLos (p : FloorPort) (level : Bool) (s : State) : State :=
  s.setPins { s.pins with los := s.pins.los.set (floorIdx p) level }

/-- A frame of a kind. -/
def frameOf (k : FrameKind) (e : Envelope) (payload : List Byte) : Frame :=
  { env := e, kind := k.code, payload := payload }

/-- The MGMT_REQ frame of a request row (12.5). -/
def requestFrame (cmd table index : Byte) (r : MgmtOperand) : Frame :=
  frameOf .mgmtReq r.env ([cmd, table, index, r.count] ++ r.data)

/-- A management request arrives on a port (R142, R147). -/
def State.actRequest (s : State) (p : Port) (row : RequestRow) (cmd table index : Byte)
    (r : MgmtOperand) : Outcome :=
  s.actFrameAt (State.setCommission r.commission) p (requestFrame cmd table index r) (.mgmt row)

end Sys2Proof.Machine
end

