-- ==== Sys2Proof/Machine/EngineCommands.lean ====
section
/-! DEFINITION. The completions of jobs, of the commit check and of a service, and the RESTART taking
effect. -/

namespace Sys2Proof.Machine

/-- The completion of an AIR job in flight, and the next take (R41, R54). -/
def State.completeAir (s : State) : State :=
  match s.job with
  | some (.air sel t rh clamped saturated gen version) =>
    (s.deliverAir sel t rh clamped saturated gen version).takeJob
  | some (.surface ..) => s
  | some (.zone ..) => s
  | none => s

/-- The completion of a SURFACE job in flight, and the next take (R41, R55). -/
def State.completeSurface (s : State) : State :=
  match s.job with
  | some (.surface sel t _ _ version binding) => (s.deliverSurface sel t version binding).takeJob
  | some (.air ..) => s
  | some (.zone ..) => s
  | none => s

/-- The completion of a ZONE job in flight, and the next take (R41, R57). -/
def State.completeZone (s : State) : State :=
  match s.job with
  | some (.zone z snap gen) => (s.deliverZone z snap gen).takeJob
  | some (.air ..) => s
  | some (.surface ..) => s
  | none => s

/-- AIR_JOB_COMPLETION (R54). -/
def execAirJobCompletion (s : State) : Outcome := s.act State.completeAir

/-- SURFACE_JOB_COMPLETION (R55). -/
def execSurfaceJobCompletion (s : State) : Outcome := s.act State.completeSurface

/-- ZONE_JOB_COMPLETION (R57). -/
def execZoneJobCompletion (s : State) : Outcome := s.act State.completeZone

/-- COMMIT_CHECK_COMPLETION (R33, R34). -/
def execCommitCheckCompletion (s : State) : Outcome := s.act State.commitEnds

/-- SERVICE_COMPLETION (R172). -/
def execServiceCompletion (s : State) : Outcome := s.act State.serviceEnds

/-- RESTART_TAKES_EFFECT (R185). -/
def execRestartTakesEffect (s : State) : Outcome := s.actDue s.due.restart State.restartEffect

end Sys2Proof.Machine
end

