-- ==== Sys2Proof/Machine/FrameCommands.lean ====
section
/-! DEFINITION. The frames that reach the router, requests apart. -/

namespace Sys2Proof.Machine

/-- SAMPLE (R6, R140). -/
def execSample (p : FloorPort) (e : Envelope) (payload : List Byte) (s : State) : Outcome :=
  s.actFrame (.floor p) (frameOf .sample e payload) .sample

/-- NODE_STATUS (R141). -/
def execNodeStatus (p : FloorPort) (e : Envelope) (payload : List Byte) (s : State) : Outcome :=
  s.actFrame (.floor p) (frameOf .nodeStatus e payload) .nodeStatus

/-- NODE_CMD (R148). -/
def execNodeCmd (e : Envelope) (payload : List Byte) (s : State) : Outcome :=
  s.actFrame .u (frameOf .nodeCmd e payload) .nodeCmd

/-- GRANT (R158). -/
def execGrant (e : Envelope) (payload : List Byte) (s : State) : Outcome :=
  s.actFrame .u (frameOf .grant e payload) .grant

/-- POLL (R115). -/
def execPoll (e : Envelope) (payload : List Byte) (s : State) : Outcome :=
  s.actFrame .u (frameOf .poll e payload) .poll

/-- FOREIGN_FRAME_IGNORED (R145). -/
def execForeignFrameIgnored (f : Frame) (s : State) : Outcome := s.actFrame .u f .foreign

/-- MISDIRECTED_FRAME (R143, R147). -/
def execMisdirectedFrame (p : Port) (f : Frame) (s : State) : Outcome := s.actFrame p f .misdirected

/-- UNKNOWN_KIND_FRAME (R143, R147). -/
def execUnknownKindFrame (p : Port) (f : Frame) (s : State) : Outcome := s.actFrame p f .unknownKind

end Sys2Proof.Machine
end

