-- ==== Sys2Proof/Machine/LineCommands.lean ====
section
/-! DEFINITION. The commands of the five lines. -/

namespace Sys2Proof.Machine

/-- What the line shows of a character reaches a port that hears it (R122 to R125). -/
def State.receiveChar (s : State) (p : Port) (l : LineChar) (ended : Bool) : State :=
  if s.hears p then
    s.updPort p fun r => if ended then r.characterEnds p l else r.characterBegins p l
  else s

/-- CHARACTER_RECEIVED (R120, R125). -/
def execCharacterReceived (p : Port) (l : LineChar) (ended commission : Bool) (s : State) : Outcome :=
  s.actOn (State.setCommission commission) fun s => s.receiveChar p l ended

/-- GAP_TIMEOUT (R127). -/
def execGapTimeout (p : Port) (s : State) : Outcome := s.act fun s => s.updPort p PortRec.gapExpires

/-- BREAK_RECOGNISED (R123). -/
def execBreakRecognised (x : FloorLevel) (s : State) : Outcome :=
  s.act fun s => s.updPort (.floor x.port) fun r => r.breakSeen x

/-- BREAK_END (R123). -/
def execBreakEnd (x : FloorLevel) (s : State) : Outcome :=
  s.act fun s => s.updPort (.floor x.port) fun r => r.pulseEnds x

/-- FLOOR_FRAME_SENT (R130, R149). -/
def execFloorFrameSent (p : FloorPort) (s : State) : Outcome :=
  s.act fun s => s.updPort (.floor p) PortRec.floorSent

/-- SETTINGS_TAKE_EFFECT (R134). -/
def execSettingsTakeEffect (p : Port) (s : State) : Outcome :=
  s.actDue (s.port p).settingsDue fun s => s.takeSettings p

end Sys2Proof.Machine
end

