-- ==== Sys2Proof/Machine/PowerCommands.lean ====
section
/-! DEFINITION. The commands of the supply, the RESET pin and the loss-of-signal inputs. -/

namespace Sys2Proof.Machine

/-- RESET_ASSERTED (R191). -/
def execResetAsserted (s : State) : Outcome := .next s.enterReset

/-- POWER_ON (R191): the supply has risen, or RESET is released. -/
def execPowerOn (straps : BitVec 3) (s : State) : Outcome := .next (s.powerUp straps)

/-- SUPPLY_REMOVED (R190). -/
def execSupplyRemoved (s : State) : Outcome := .next s.loseSupply

/-- LOS_ASSERTED (R132). The level of the input is followed in every condition of the part (R136). -/
def execLosAsserted (p : FloorPort) (s : State) : Outcome :=
  s.actOn (State.setLos p true) fun s => s.signalLost p

/-- LOS_RELEASED (R133). -/
def execLosReleased (p : FloorPort) (s : State) : Outcome :=
  s.actOn (State.setLos p false) fun s => s.signalBack p

end Sys2Proof.Machine
end

