-- ==== Sys2Proof/Machine/RequestCommands.lean ====
section
/-! DEFINITION. The management requests, one row of the opcode table each (12.5 gives the codes). -/

namespace Sys2Proof.Machine

/-- READ (R179). -/
def execRead (p : Port) (table : Byte) (r : MgmtOperand) (s : State) : Outcome :=
  s.actRequest p .read 1 table r.index r

/-- WRITE_SDT (R5). -/
def execWriteSdt (p : Port) (r : MgmtOperand) (s : State) : Outcome :=
  s.actRequest p .writeSdt 2 1 r.index r

/-- WRITE_SFT (R81). -/
def execWriteSft (p : Port) (r : MgmtOperand) (s : State) : Outcome :=
  s.actRequest p .writeSft 2 4 r.index r

/-- EXCHANGE_SFT (R82). -/
def execExchangeSft (p : Port) (r : MgmtOperand) (s : State) : Outcome :=
  s.actRequest p .exchangeSft 3 4 r.index r

/-- WRITE_THR (R79). -/
def execWriteThr (p : Port) (r : MgmtOperand) (s : State) : Outcome :=
  s.actRequest p .writeThr 2 5 r.index r

/-- EXCHANGE_THR (R79). -/
def execExchangeThr (p : Port) (r : MgmtOperand) (s : State) : Outcome :=
  s.actRequest p .exchangeThr 3 5 r.index r

/-- WRITE_ZONE (R62). -/
def execWriteZone (p : Port) (r : MgmtOperand) (s : State) : Outcome :=
  s.actRequest p .writeZone 2 6 r.index r

/-- WRITE_SLOT (R109). -/
def execWriteSlot (p : Port) (r : MgmtOperand) (s : State) : Outcome :=
  s.actRequest p .writeSlot 2 7 r.index r

/-- WRITE_EPOCH_LENGTH (R187): CONFIG entry 0. -/
def execWriteEpochLength (p : Port) (r : MgmtOperand) (s : State) : Outcome :=
  s.actRequest p .writeEpochLength 2 8 0 r

/-- WRITE_SILENCE_LIMIT (R187): CONFIG entry 1. -/
def execWriteSilenceLimit (p : Port) (r : MgmtOperand) (s : State) : Outcome :=
  s.actRequest p .writeSilenceLimit 2 8 1 r

/-- WRITE_LINE_SETTINGS (R187): CONFIG entry 2. -/
def execWriteLineSettings (p : Port) (r : MgmtOperand) (s : State) : Outcome :=
  s.actRequest p .writeLineSettings 2 8 2 r

/-- SVT_LOAD (R30). -/
def execSvtLoad (p : Port) (table : Byte) (r : MgmtOperand) (s : State) : Outcome :=
  s.actRequest p .svtLoad 4 table r.index r

/-- SVT_COMMIT (R32). -/
def execSvtCommit (p : Port) (table : Byte) (r : MgmtOperand) (s : State) : Outcome :=
  s.actRequest p .svtCommit 5 table r.index r

/-- QUERY_SENSOR (R23). -/
def execQuerySensor (p : Port) (r : MgmtOperand) (s : State) : Outcome :=
  s.actRequest p .querySensor 6 1 r.index r

/-- QUERY_SURFACE (R98). -/
def execQuerySurface (p : Port) (r : MgmtOperand) (s : State) : Outcome :=
  s.actRequest p .querySurface 6 2 r.index r

/-- QUERY_ZONE (R74). -/
def execQueryZone (p : Port) (r : MgmtOperand) (s : State) : Outcome :=
  s.actRequest p .queryZone 6 3 r.index r

/-- QUERY_SLOT (R116). -/
def execQuerySlot (p : Port) (r : MgmtOperand) (s : State) : Outcome :=
  s.actRequest p .querySlot 6 4 r.index r

/-- QUERY_PORT (R135, R152). -/
def execQueryPort (p : Port) (r : MgmtOperand) (s : State) : Outcome :=
  s.actRequest p .queryPort 6 5 r.index r

/-- QUERY_UNIT (R183). -/
def execQueryUnit (p : Port) (r : MgmtOperand) (s : State) : Outcome :=
  s.actRequest p .queryUnit 6 6 r.index r

/-- CLEAR_COUNTERS (R184). -/
def execClearCounters (p : Port) (r : MgmtOperand) (s : State) : Outcome :=
  s.actRequest p .clearCounters 7 1 r.index r

/-- CLEAR_ACCESSED (R21). -/
def execClearAccessed (p : Port) (r : MgmtOperand) (s : State) : Outcome :=
  s.actRequest p .clearAccessed 7 2 r.index r

/-- CLEAR_SLOT_FLAGS (R116). -/
def execClearSlotFlags (p : Port) (r : MgmtOperand) (s : State) : Outcome :=
  s.actRequest p .clearSlotFlags 7 3 r.index r

/-- CLEAR_SURFACE_COUNTS (R98). -/
def execClearSurfaceCounts (p : Port) (r : MgmtOperand) (s : State) : Outcome :=
  s.actRequest p .clearSurfaceCounts 7 4 r.index r

/-- CLEAR_ZONE_FLAGS (R74). -/
def execClearZoneFlags (p : Port) (r : MgmtOperand) (s : State) : Outcome :=
  s.actRequest p .clearZoneFlags 7 5 r.index r

/-- CLEAR_ALARM (R108). -/
def execClearAlarm (p : Port) (r : MgmtOperand) (s : State) : Outcome :=
  s.actRequest p .clearAlarm 7 6 r.index r

/-- RESTART (R185). -/
def execRestart (p : Port) (table : Byte) (r : MgmtOperand) (s : State) : Outcome :=
  s.actRequest p .restart 8 table r.index r

/-- MALFORMED_REQUEST (R174): a request no other row stands for (log 15). -/
def execMalformedRequest (p : Port) (e : Envelope) (commission : Bool) (payload : List Byte)
    (s : State) : Outcome :=
  s.actFrameAt (State.setCommission commission) p (frameOf .mgmtReq e payload) (.mgmt .malformed)

end Sys2Proof.Machine
end

