-- ==== Sys2Proof/Machine/TimeCommands.lean ====
section
/-! DEFINITION. The commands of the seconds timebase. -/

namespace Sys2Proof.Machine

/-- SECONDS_TICK (R16, R65, R163). -/
def execSecondsTick (s : State) : Outcome := s.act State.tick

/-- STALENESS_EXPIRY (R16). -/
def execStalenessExpiry (sel : Selector) (s : State) : Outcome :=
  s.actDue (s.desc sel).staleDue fun s => s.goStale sel

/-- EPOCH_EXPIRY (R66, R67). -/
def execEpochExpiry (s : State) : Outcome := s.actDue s.epochDue State.epochExpires

/-- SILENCE_ENTRY (R163). -/
def execSilenceEntry (s : State) : Outcome := s.actDue s.due.silence State.enterSilent

end Sys2Proof.Machine
end

