-- ==== Sys2Proof/Machine/UplinkCommands.lean ====
section
/-! DEFINITION. The transmissions of U. -/

namespace Sys2Proof.Machine

/-- U_TRANSMIT_START (R131). -/
def execUTransmitStart (s : State) : Outcome := s.act State.uStarts

/-- U_FRAME_SENT (R131, R160). -/
def execUFrameSent (s : State) : Outcome := s.act State.uSent

/-- COLLISION (R131, R162). A read-back that passes the echo check is no collision (log 18). -/
def execCollision (pos : Nat) (back : LineChar) (s : State) : Outcome :=
  s.act fun s => if s.echoFailsAt pos back then s.uCollides else s

end Sys2Proof.Machine
end

