-- ==== Sys2Proof/Machine/Dispatch.lean ====
section
/-! DEFINITION. The meaning of every command, one arm per row of the opcode table. -/

namespace Sys2Proof.Machine

def exec (i : Instr) (s : State) : Host.Outcome State Fault Refusal :=
  match i with
  | .resetAsserted => Sys2Proof.Machine.execResetAsserted s
  | .powerOn straps => Sys2Proof.Machine.execPowerOn straps s
  | .secondsTick => Sys2Proof.Machine.execSecondsTick s
  | .stalenessExpiry sel => Sys2Proof.Machine.execStalenessExpiry sel s
  | .epochExpiry => Sys2Proof.Machine.execEpochExpiry s
  | .silenceEntry => Sys2Proof.Machine.execSilenceEntry s
  | .losAsserted p => Sys2Proof.Machine.execLosAsserted p s
  | .losReleased p => Sys2Proof.Machine.execLosReleased p s
  | .characterReceived p l ended commission => Sys2Proof.Machine.execCharacterReceived p l ended commission s
  | .gapTimeout p => Sys2Proof.Machine.execGapTimeout p s
  | .breakRecognised x => Sys2Proof.Machine.execBreakRecognised x s
  | .breakEnd x => Sys2Proof.Machine.execBreakEnd x s
  | .foreignFrameIgnored f => Sys2Proof.Machine.execForeignFrameIgnored f s
  | .sample p e payload => Sys2Proof.Machine.execSample p e payload s
  | .airJobCompletion => Sys2Proof.Machine.execAirJobCompletion s
  | .surfaceJobCompletion => Sys2Proof.Machine.execSurfaceJobCompletion s
  | .zoneJobCompletion => Sys2Proof.Machine.execZoneJobCompletion s
  | .nodeStatus p e payload => Sys2Proof.Machine.execNodeStatus p e payload s
  | .nodeCmd e payload => Sys2Proof.Machine.execNodeCmd e payload s
  | .misdirectedFrame p f => Sys2Proof.Machine.execMisdirectedFrame p f s
  | .unknownKindFrame p f => Sys2Proof.Machine.execUnknownKindFrame p f s
  | .grant e payload => Sys2Proof.Machine.execGrant e payload s
  | .poll e payload => Sys2Proof.Machine.execPoll e payload s
  | .uTransmitStart => Sys2Proof.Machine.execUTransmitStart s
  | .uFrameSent => Sys2Proof.Machine.execUFrameSent s
  | .collision pos back => Sys2Proof.Machine.execCollision pos back s
  | .floorFrameSent p => Sys2Proof.Machine.execFloorFrameSent p s
  | .settingsTakeEffect p => Sys2Proof.Machine.execSettingsTakeEffect p s
  | .read p table r => Sys2Proof.Machine.execRead p table r s
  | .writeSdt p r => Sys2Proof.Machine.execWriteSdt p r s
  | .writeSft p r => Sys2Proof.Machine.execWriteSft p r s
  | .exchangeSft p r => Sys2Proof.Machine.execExchangeSft p r s
  | .writeThr p r => Sys2Proof.Machine.execWriteThr p r s
  | .exchangeThr p r => Sys2Proof.Machine.execExchangeThr p r s
  | .writeZone p r => Sys2Proof.Machine.execWriteZone p r s
  | .writeSlot p r => Sys2Proof.Machine.execWriteSlot p r s
  | .writeEpochLength p r => Sys2Proof.Machine.execWriteEpochLength p r s
  | .writeSilenceLimit p r => Sys2Proof.Machine.execWriteSilenceLimit p r s
  | .writeLineSettings p r => Sys2Proof.Machine.execWriteLineSettings p r s
  | .svtLoad p table r => Sys2Proof.Machine.execSvtLoad p table r s
  | .svtCommit p table r => Sys2Proof.Machine.execSvtCommit p table r s
  | .commitCheckCompletion => Sys2Proof.Machine.execCommitCheckCompletion s
  | .querySensor p r => Sys2Proof.Machine.execQuerySensor p r s
  | .querySurface p r => Sys2Proof.Machine.execQuerySurface p r s
  | .queryZone p r => Sys2Proof.Machine.execQueryZone p r s
  | .querySlot p r => Sys2Proof.Machine.execQuerySlot p r s
  | .queryPort p r => Sys2Proof.Machine.execQueryPort p r s
  | .queryUnit p r => Sys2Proof.Machine.execQueryUnit p r s
  | .clearCounters p r => Sys2Proof.Machine.execClearCounters p r s
  | .clearAccessed p r => Sys2Proof.Machine.execClearAccessed p r s
  | .clearSlotFlags p r => Sys2Proof.Machine.execClearSlotFlags p r s
  | .clearSurfaceCounts p r => Sys2Proof.Machine.execClearSurfaceCounts p r s
  | .clearZoneFlags p r => Sys2Proof.Machine.execClearZoneFlags p r s
  | .clearAlarm p r => Sys2Proof.Machine.execClearAlarm p r s
  | .restart p table r => Sys2Proof.Machine.execRestart p table r s
  | .restartTakesEffect => Sys2Proof.Machine.execRestartTakesEffect s
  | .serviceCompletion => Sys2Proof.Machine.execServiceCompletion s
  | .malformedRequest p e commission payload => Sys2Proof.Machine.execMalformedRequest p e commission payload s
  | .supplyRemoved => Sys2Proof.Machine.execSupplyRemoved s

end Sys2Proof.Machine
end

