-- ==== Sys2Proof/Safety.lean ====
section
/-! DEFINITION. The terms statements are made in: what a step leaves alone, a state with nothing due, a
request that the engine can take and what it is answered, and the laws of the device. -/

/-- The request comes from U, where its effective level is at most `n` (R175, R176). -/
def Sys2Proof.MgmtOperand.MayChange (r : Sys2Proof.MgmtOperand) (p : Sys2Proof.Port) (n : Nat) : Prop :=
  p = .u ∧ r.env.rpl.toNat ≤ n ∧ (n = 0 → r.commission = true)

namespace Sys2Proof.Machine

/-! ### Frames -/

/-- The fields of the state. -/
inductive Field where
  | power | pins | unitNo | ports | sdt | svt | evalQueue | zoneClose | job | zones | epochCount
  | surfaces | thr | slots | alarmLoss | counters | turn | mgmt | config | condense | due | pending
deriving DecidableEq, Repr

/-- A field has the same value in two states. -/
def Field.Same (s t : State) : Field → Prop
  | .power => t.power = s.power
  | .pins => t.pins = s.pins
  | .unitNo => t.unitNo = s.unitNo
  | .ports => t.ports = s.ports
  | .sdt => t.sdt = s.sdt
  | .svt => t.svt = s.svt
  | .evalQueue => t.evalQueue = s.evalQueue
  | .zoneClose => t.zoneClose = s.zoneClose
  | .job => t.job = s.job
  | .zones => t.zones = s.zones
  | .epochCount => t.epochCount = s.epochCount
  | .surfaces => t.surfaces = s.surfaces
  | .thr => t.thr = s.thr
  | .slots => t.slots = s.slots
  | .alarmLoss => t.alarmLoss = s.alarmLoss
  | .counters => t.counters = s.counters
  | .turn => t.turn = s.turn
  | .mgmt => t.mgmt = s.mgmt
  | .config => t.config = s.config
  | .condense => t.condense = s.condense
  | .due => t.due = s.due
  | .pending => t.pending = s.pending

/-- `t` differs from `s` at most in the listed fields. -/
def State.Changes (s t : State) (fs : List Field) : Prop := ∀ f : Field, f ∉ fs → f.Same s t

/-- What raising report events can touch (R104 to R106, R189). -/
def reportFields : List Field := [.slots, .counters, .alarmLoss, .condense]

/-- Every port but `p` is as it was. -/
def State.OtherPorts (s t : State) (p : Port) : Prop := ∀ q : Port, q ≠ p → t.port q = s.port q

/-- Every descriptor but that of `sel` is as it was. -/
def State.OtherDescs (s t : State) (sel : Selector) : Prop :=
  ∀ x : Selector, x ≠ sel → t.desc x = s.desc x

/-- Every surface record but `i` is as it was. -/
def State.OtherSurfaces (s t : State) (i : Fin 64) : Prop :=
  ∀ j : Fin 64, j ≠ i → t.surface j = s.surface j

/-- Every zone is as it was but for its worst grade and surface, which follow the surfaces (R72, R96). -/
def State.ZonesKept (s t : State) : Prop :=
  ∀ z : Fin 32, t.zone z = { s.zone z with worst := (t.zone z).worst }

/-! ### States with nothing due -/

/-- A port at which settings waiting take effect: at a frame boundary, and the reply to the WRITE that set
them neither owed nor being transmitted on it (R119, R134). -/
def PortRec.Ready (r : PortRec) : Prop :=
  r.rx = .hunting ∧ r.partWay = false ∧ r.held = none ∧ r.tx = .idle ∧ r.settingsReply = false

/-- The part runs and nothing is due (log 1): no settings wait at a frame boundary without a reply owed, no
completed frame waits for the router, no RESTART is due, no AWAITING or LIVE sensor stands at its limit, the
epoch has not run out, SILENT is not due. -/
structure State.Settled (s : State) : Prop where
  running : s.power = .running
  settings : ∀ p : Port, (s.port p).waiting = none ∨ ¬ (s.port p).Ready
  buffers : ∀ p : Port, (s.port p).buffer = none
  restart : s.due.restart = false
  sensors : ∀ (sel : Selector) (c : SensorConfig), (s.desc sel).config = some c →
    (s.desc sel).phase = .awaiting ∨ (s.desc sel).phase = .live → (s.desc sel).age < c.staleLimit
  epoch : s.epochCount < s.config.epochLength
  silence : s.due.silence = false

/-! ### Requests -/

/-- A request's header is addressed to the part from port `p` (R139, R142, R146). -/
def State.Addressed (s : State) (p : Port) (e : Envelope) : Prop :=
  e.dstScope = .unit ∧ (p = .u → e.srcUnit = 0 ∧ e.dstUnit = s.unitNo)

/-- A request on port `p` reaches an IDLE engine: nothing is due, the port receives, the header is
addressed to the part, and no reply is owed on the port. -/
structure State.Admits (s : State) (p : Port) (e : Envelope) : Prop where
  settled : s.Settled
  hears : s.hears p = true
  addressed : s.Addressed p e
  free : (s.port p).owed = false
  idle : s.mgmt = .idle

/-- The state once a request has reached the engine: the COMMISSION level of the event, and a reply owed
on the arrival port (R142, R147, R175). -/
def State.asked (s : State) (p : Port) (commission : Bool) : State :=
  (s.setPins { s.pins with commission := commission }).setPort p { s.port p with owed := true }

/-- The header of the reply to a request (R177). -/
def replyHeader (own : BitVec 4) (p : Port) (e : Envelope) : Envelope :=
  match p with
  | .u => { dstUnit := 0, dstScope := .unit, dstNode := 0, srcUnit := own, srcScope := .unit,
            srcNode := 0, rpl := 0, tag := e.tag }
  | .floor q => { dstUnit := 0, dstScope := floorScope q, dstNode := e.srcNode, srcUnit := own,
                  srcScope := .unit, srcNode := 0, rpl := 0, tag := e.tag }

/-- The reply to a request: kind MGMT_REPLY, with the five parts of its payload (R177, 12.5). -/
def replyTo (own : BitVec 4) (p : Port) (e : Envelope) (cmd status index count : Byte)
    (data : List Byte) : Frame :=
  { env := replyHeader own p e, kind := 7, payload := [cmd, status, index, count] ++ data }

/-- The engine's copy of a request: its levels are fixed at the take (R172, R175, R176). -/
def requestRecord (p : Port) (e : Envelope) (commission : Bool) (payload : List Byte) : Request :=
  { port := p, tag := e.tag, srcNode := e.srcNode,
    level :=
      max (match p with | .floor _ => 3 | .u => if commission then 0 else 1) e.rpl.toNat
    payload := payload }

/-- The payload of a request row. -/
def requestPayload (cmd table index : Byte) (r : MgmtOperand) : List Byte :=
  [cmd, table, index, r.count] ++ r.data

/-- `t` serves a change that was carried out: the reply is OK, with the request's index and a count of 1
(R172, R180). -/
def State.ServesOk (s t : State) (p : Port) (r : MgmtOperand) (cmd table index : Byte)
    (data : List Byte) : Prop :=
  t.mgmt = .serving (requestRecord p r.env r.commission (requestPayload cmd table index r))
    (replyTo s.unitNo p r.env cmd 0 index 1 data)

/-- The request rows of the opcode table, each with its operands. -/
def requestRows (p : Port) (table : Byte) (r : MgmtOperand) : List Instr :=
  [.read p table r, .writeSdt p r, .writeSft p r, .exchangeSft p r, .writeThr p r, .exchangeThr p r,
   .writeZone p r, .writeSlot p r, .writeEpochLength p r, .writeSilenceLimit p r,
   .writeLineSettings p r, .svtLoad p table r, .svtCommit p table r, .querySensor p r,
   .querySurface p r, .queryZone p r, .querySlot p r, .queryPort p r, .queryUnit p r,
   .clearCounters p r, .clearAccessed p r, .clearSlotFlags p r, .clearSurfaceCounts p r,
   .clearZoneFlags p r, .clearAlarm p r, .restart p table r]

/-- The payloads of MALFORMED_REQUEST, which no other request row carries (R174, R177 to R185; log 15): too
short, or with a command, a table or a CONFIG index that no row has. -/
def OtherRequest (payload : List Byte) : Prop :=
  let cmd := payload.getD 0 0
  let table := payload.getD 1 0
  payload.length < 4 ∨ cmd = 0 ∨ 8 < cmd.toNat ∨
    (cmd = 2 ∧ (table = 0 ∨ table = 2 ∨ table = 3 ∨ 8 < table.toNat ∨
      (table = 8 ∧ 2 < (payload.getD 2 0).toNat))) ∨
    (cmd = 3 ∧ table ≠ 4 ∧ table ≠ 5) ∨
    ((cmd = 6 ∨ cmd = 7) ∧ (table = 0 ∨ 6 < table.toNat))

/-- The command code of a request row (12.1). -/
def commandCode : Instr → Byte
  | .read .. => 1
  | .writeSdt .. | .writeSft .. | .writeThr .. | .writeZone .. | .writeSlot .. | .writeEpochLength ..
  | .writeSilenceLimit .. | .writeLineSettings .. => 2
  | .exchangeSft .. | .exchangeThr .. => 3
  | .svtLoad .. => 4
  | .svtCommit .. => 5
  | .querySensor .. | .querySurface .. | .queryZone .. | .querySlot .. | .queryPort ..
  | .queryUnit .. => 6
  | .clearCounters .. | .clearAccessed .. | .clearSlotFlags .. | .clearSurfaceCounts ..
  | .clearZoneFlags .. | .clearAlarm .. => 7
  | .restart .. => 8
  | _ => 0

/-- The index a request row carries: the CONFIG rows fix theirs (12.5). -/
def rowIndex (i : Instr) (r : MgmtOperand) : Byte :=
  match i with
  | .writeEpochLength .. => 0
  | .writeSilenceLimit .. => 1
  | .writeLineSettings .. => 2
  | _ => r.index

/-- The state that serves a request and changes nothing else: the answer of every request but the ones that
change a table (R172, R177). -/
def State.answered (s : State) (p : Port) (r : MgmtOperand) (cmd table index : Byte)
    (status replyIndex replyCount : Byte) (data : List Byte) : State :=
  (s.asked p r.commission).setMgmt
    (.serving (requestRecord p r.env r.commission (requestPayload cmd table index r))
      (replyTo s.unitNo p r.env cmd status replyIndex replyCount data))

/-- The turn controller once a reply has been handed to it (R156, R157): in LISTEN, with no frame with U, the
head of the reply list is committed; otherwise the reply waits at the list's end. -/
def Turn.handed (t : Turn) (f : Frame) (src : ReplySource) : Turn :=
  if t.state = .listen ∧ t.withU = none then
    match t.replies with
    | [] => { t with state := .replying, withU := some { frame := f, source := .reply src } }
    | r :: rest =>
      { t with state := .replying, replies := rest ++ [{ frame := f, source := src }],
               withU := some { frame := r.frame, source := .reply r.source } }
  else { t with replies := t.replies ++ [{ frame := f, source := src }] }

/-- The turn controller once the frame with U is gone outside a turn, or has ended one: LISTEN, or the next reply
committed at once (R157). -/
def Turn.released (t : Turn) : Turn :=
  match t.replies with
  | [] => { t with state := .listen, withU := none }
  | r :: rest => { t with state := .replying, replies := rest,
                          withU := some { frame := r.frame, source := .reply r.source } }

/-! ### Report events -/

/-- The state after several events are raised, in the order of the list (log 9). -/
def State.raiseAll (s : State) (es : List Event) : State := es.foldl State.raise s

/-- The report block and the unit counters of `t` are those of `s`. -/
def State.SameReports (s t : State) : Prop :=
  t.slots = s.slots ∧ t.counters = s.counters ∧ t.alarmLoss = s.alarmLoss

/-- The SENSOR event of a transition, if the descriptor's sensor-report enable is yes (R17). -/
def sensorEvents (c : SensorConfig) (sel : Selector) (left entered : SensorState) (age rejects : Nat) :
    List Event :=
  if c.reportEnable then [.sensor sel left entered age rejects] else []

/-- The SENSOR event of an acceptance that leaves STALE or SUSPECT (R14, R17; log 10). -/
def recoveryEvents (c : SensorConfig) (sel : Selector) (d : Descriptor) : List Event :=
  if d.phase = .stale ∨ d.phase = .suspect then sensorEvents c sel d.state .live 0 0 else []

/-- The GRADE events of the grade changes from `s` to `t`, in ascending surface order (R96, R97; log 9): one
for each in-use record of `t` with grade-report enable whose grade is not the one it held in `s`, BLIND for a
record that was not in use. -/
def State.gradeEvents (s t : State) : List Event :=
  (List.finRange 64).filterMap fun i =>
    let r := t.surface i
    let left := if (s.surface i).config = none then Grade.blind else (s.surface i).grade
    match r.config with
    | none => none
    | some c =>
      if c.reportEnable = true ∧ r.grade ≠ left then
        some (.grade i left r.grade r.margin r.confirmed (decide (r.source = some .fallback)))
      else none

/-- The surface records of `t` are those of `s` after a probe notice of a descriptor's kind: a SURFACE probe
takes its records to BLIND unless CONFIRMED holds them, a WETNESS probe clears CONFIRMED, an AIR descriptor
sends none (R18, R93, R94, R96). -/
def State.Noticed (s t : State) (kind : SensorKind) (sel : Selector) : Prop :=
  ∀ i : Fin 64,
    match (s.surface i).config, kind with
    | none, _ => t.surface i = s.surface i
    | some _, .air => t.surface i = s.surface i
    | some g, .surface => t.surface i =
        if g.probe = sel then
          { s.surface i with
            grade := if (s.surface i).confirmed then (s.surface i).grade else .blind
            margin := none, source := none, dwell := 0
            changes :=
              if (s.surface i).confirmed = true ∨ (s.surface i).grade = .blind then
                (s.surface i).changes
              else min ((s.surface i).changes + 1) 65535 }
        else s.surface i
    | some g, .wetness => t.surface i =
        if g.wetness = some sel then { s.surface i with confirmed := false } else s.surface i

/-! ### The forward queue -/

/-- The turn controller once a frame was offered to the forward queue of 32 (R165). -/
def Turn.joined (t : Turn) (f : Frame) : Turn :=
  if t.fq.length < 32 then { t with fq := t.fq ++ [f] }
  else { t with forwardDrop := min (t.forwardDrop + 1) 65535 }

/-- The state once an ENRICHED frame of a sensor was offered: the queue places it or drops and counts it, and
the forwarded reference takes what it carries (R165, R167). -/
def State.offered (s : State) (sel : Selector) (payload : List Byte) (v : RefValue) : State :=
  (s.setTurn (s.turn.joined (s.enrichedFrame sel payload))).setDesc sel
    { s.desc sel with forwarded := some { state := (s.desc sel).state, value := v } }

/-- The turn controller after the RAW copy of a SAMPLE frame, which only mode RAW offers: the frame as the
router rewrites it (R6, R139, R166). -/
def State.rawTurn (s : State) (c : SensorConfig) (q : FloorPort) (e : Envelope) (payload : List Byte) :
    Turn :=
  if c.mode = .raw then
    s.turn.joined
      { env := { e with srcUnit := s.unitNo, srcScope := floorScope q }, kind := 1, payload := payload }
  else s.turn

/-! ### Laws -/

/-- R33, the fourth law: the active bank is strictly increasing and starts at 1 or more. -/
def State.ActiveRising (s : State) : Prop :=
  1 ≤ (s.svt.active.get 0).toNat ∧
    ∀ i j : Fin 251, i < j → (s.svt.active.get i).toNat < (s.svt.active.get j).toNat

/-- R79, the sixth law. -/
def ThrSet.Ordered (t : ThrSet) : Prop :=
  t.alert < t.watch ∧ t.wet < t.alert ∧ -1000 ≤ t.wet ∧ t.watch ≤ 2000 ∧ t.hyst ≤ 200 ∧
    1 ≤ t.dwell ∧ t.dwell ≤ 15

/-- Every threshold set is ordered (R79). -/
def State.ThresholdsOrdered (s : State) : Prop := ∀ i : Fin 8, (s.thr.get i).Ordered

/-- R80, the twelfth law: no two in-use surface records name one probe. -/
def State.ProbesUnique (s : State) : Prop :=
  ∀ i j : Fin 64, ∀ c d : SurfaceConfig, (s.surface i).config = some c → (s.surface j).config = some d →
    c.probe = d.probe → i = j

/-- A surface record is in use and names the zone (R71). -/
def State.InZone (s : State) (z : Fin 32) (i : Fin 64) : Prop :=
  ∃ c : SurfaceConfig, (s.surface i).config = some c ∧ c.zone = z

/-- R71: a zone's worst grade is the worst, by that rule's ranking, of its in-use surfaces, and its worst
surface the lowest-numbered of them that holds it; without such a surface there is neither. -/
def State.WorstEncoded (s : State) : Prop :=
  ∀ z : Fin 32,
    match (s.zone z).worst with
    | none => ∀ i : Fin 64, ¬ s.InZone z i
    | some (g, i) => s.InZone z i ∧ (s.surface i).grade = g ∧
        (∀ j : Fin 64, s.InZone z j → (s.surface j).grade.zoneRank ≤ g.zoneRank) ∧
        ∀ j : Fin 64, j < i → s.InZone z j → (s.surface j).grade ≠ g

/-- R189 with the seventh law: while the part runs, the CONDENSE line is asserted exactly when an in-use
surface is WET, the latch is set, or SILENT is set with an in-use surface ALERT or WET. -/
def State.CondenseFollows (s : State) : Prop :=
  s.power = .running →
    (s.condense = true ↔
      (∃ i : Fin 64, (s.surface i).config ≠ none ∧ (s.surface i).grade = .wet) ∨
      s.alarmLoss = true ∨
      (s.turn.silent = true ∧ ∃ i : Fin 64, (s.surface i).config ≠ none ∧
        ((s.surface i).grade = .alert ∨ (s.surface i).grade = .wet)))

/-- R159, the eighth law: the frames committed in a turn never exceed its budget, nor the budget 16. -/
def State.WithinBudget (s : State) : Prop := s.turn.sent ≤ s.turn.budget ∧ s.turn.budget ≤ 16

/-- R63: a zone's accumulated weight never exceeds 15 for each accumulated result. -/
def State.WeightsBounded (s : State) : Prop := ∀ z : Fin 32, (s.zone z).sw ≤ 15 * (s.zone z).n

/-- R38: the evaluation queue holds at most 32 entries, no two for one selector. -/
def State.EvalQueueSound (s : State) : Prop :=
  s.evalQueue.length ≤ 32 ∧ (s.evalQueue.map SampleJob.sel).Nodup

/-- R138, R148: no downward queue holds more than 4 frames. -/
def State.DownwardBounded (s : State) : Prop := ∀ p : Port, (s.port p).downward.length ≤ 4

/-- R155, R165: the forward queue holds at most 32 frames. -/
def State.ForwardQueueBounded (s : State) : Prop := s.turn.fq.length ≤ 32

/-- R92, the fifth law, with what it rests on: CONFIRMED is held only in grade WET (R78). -/
def State.PadsObeyed (s : State) : Prop :=
  ∀ i : Fin 64, ∀ c : SurfaceConfig, (s.surface i).config = some c →
    ((s.surface i).confirmed = true → (s.surface i).grade = .wet) ∧
    ∀ (w : Selector) (k : SensorConfig), c.wetness = some w → (s.desc w).config = some k →
      k.kind = .wetness → (s.desc w).phase = .live → (s.desc w).lastWet = some .water →
      (s.surface i).grade = .wet ∧ (s.surface i).confirmed = true

/-- The slot's entries are unsent (R103). -/
def Slot.Unsent (r : Slot) : Prop := r.state = .collecting ∨ r.state = .pending

/-- Two entries are about one subject: kind and id are equal (R101). -/
def Event.SameSubject (a b : Event) : Prop := a.kindBit = b.kindBit ∧ a.id = b.id

/-- R107, the third law, with what it rests on (R103, R105): the unsent slots hold at most one entry about
a subject; a slot that is IDLE or EMPTY holds no entry; a slot accepts what it holds; no slot holds two
entries about a subject, nor more than 7 entries. -/
structure State.SubjectsUnique (s : State) : Prop where
  across : ∀ i j : Fin 16, i ≠ j → (s.slot i).Unsent → (s.slot j).Unsent →
    ∀ a ∈ (s.slot i).entries, ∀ b ∈ (s.slot j).entries, ¬ a.SameSubject b
  within : ∀ i : Fin 16, (s.slot i).entries.Pairwise fun a b => ¬ a.SameSubject b
  none : ∀ i : Fin 16, (s.slot i).state = .idle ∨ (s.slot i).state = .empty → (s.slot i).entries = []
  accepted : ∀ i : Fin 16, ∀ a ∈ (s.slot i).entries,
    (s.slot i).binding.kinds.getLsbD a.kindBit = true ∧
      a.id &&& (s.slot i).binding.idMask = (s.slot i).binding.idMatch
  few : ∀ i : Fin 16, (s.slot i).entries.length ≤ 7

end Sys2Proof.Machine
end

