-- ==== Sys2Proof/WellFormed.lean ====
section
/-! DEFINITION. Which commands are well formed: those whose frames fit on a line and whose operands the
table's row admits. Checks that need the part's state (its unit number, a port's link) are not here. -/

namespace Sys2Proof

/-- A frame whose length field can hold its payload's length (R126). -/
def Frame.wf (f : Frame) : Bool := decide (f.payload.length ≤ maxPayload)

/-- A payload that fits in a frame. -/
def payloadWf (payload : List Byte) : Bool := decide (payload.length ≤ maxPayload)

/-- A header the filter of R145 lets pass for some unit: sent by the supervisor. -/
def Envelope.fromSupervisor (e : Envelope) : Bool := decide (e.srcUnit = 0)

/-- A request's header: scope UNIT, and on U from the supervisor to one unit (R142, R146). -/
def requestEnvWf (p : Port) (e : Envelope) : Bool :=
  decide (e.dstScope = .unit) &&
    match p with
    | .floor _ => true
    | .u => e.fromSupervisor && decide (e.dstUnit ≠ 15)

/-- A request's operands: 0 to 44 data bytes (12.5). -/
def MgmtOperand.wf (p : Port) (r : MgmtOperand) : Bool :=
  requestEnvWf p r.env && decide (r.data.length ≤ 44)

/-- A selector that names a sensor: its node is not 0 (00_scope, "Names"). -/
def Selector.named (s : Selector) : Bool := decide (s.extractLsb' 0 6 ≠ (0 : BitVec 6))

/-- What a line can show around a character: the cells of a character time, each seen at least once
(R120). Of one that has not ended there may be fewer. -/
def LineChar.wf (l : LineChar) (ended : Bool) : Bool :=
  decide (1 ≤ l.cells.length ∧ l.cells.length ≤ 11) && (!ended || decide (10 ≤ l.cells.length)) &&
    l.cells.all fun c => !c.isEmpty

/-- The well-formed commands. -/
def Instr.wf : Instr → Bool
  | .stalenessExpiry sel => Selector.named sel
  | .characterReceived _ l ended _ => l.wf ended
  | .foreignFrameIgnored f => f.wf && decide (f.env.srcUnit ≠ 0 ∨ f.env.dstUnit ≠ 15)
  | .sample _ _ payload | .nodeStatus _ _ payload => payloadWf payload
  | .nodeCmd e payload => payloadWf payload && e.fromSupervisor && decide (e.dstScope ≠ .unit)
  | .misdirectedFrame p f =>
    f.wf && (FrameKind.ofCode f.kind).isSome &&
      match p with
      | .floor _ => decide (floorRow f = .misdirected)
      | .u => f.env.fromSupervisor
  | .unknownKindFrame p f =>
    f.wf && (FrameKind.ofCode f.kind).isNone &&
      match p with
      | .floor _ => true
      | .u => f.env.fromSupervisor
  | .grant e payload =>
    payloadWf payload && e.fromSupervisor && decide (e.dstScope = .unit ∧ e.dstUnit ≠ 15)
  | .poll e payload => payloadWf payload && e.fromSupervisor && decide (e.dstUnit ≠ 15)
  | .collision pos back => decide (pos < maxPayload + 10) && back.wf true
  | .read p _ r | .svtLoad p _ r | .svtCommit p _ r | .restart p _ r => r.wf p
  | .writeSdt p r | .writeSft p r | .exchangeSft p r | .writeThr p r | .exchangeThr p r
  | .writeZone p r | .writeSlot p r => r.wf p
  | .writeEpochLength p r => r.wf p && decide (r.index = 0)
  | .writeSilenceLimit p r => r.wf p && decide (r.index = 1)
  | .writeLineSettings p r => r.wf p && decide (r.index = 2)
  | .querySensor p r | .querySurface p r | .queryZone p r | .querySlot p r | .queryPort p r
  | .queryUnit p r => r.wf p
  | .clearCounters p r | .clearAccessed p r | .clearSlotFlags p r | .clearSurfaceCounts p r
  | .clearZoneFlags p r | .clearAlarm p r => r.wf p
  | .malformedRequest p e _ payload =>
    requestEnvWf p e && payloadWf payload && decide (requestRow payload = .malformed)
  | .resetAsserted | .powerOn _ | .secondsTick | .epochExpiry | .silenceEntry
  | .losAsserted _ | .losReleased _ | .gapTimeout _ | .breakRecognised _ | .breakEnd _
  | .airJobCompletion | .surfaceJobCompletion | .zoneJobCompletion
  | .uTransmitStart | .uFrameSent | .floorFrameSent _ | .settingsTakeEffect _
  | .commitCheckCompletion | .restartTakesEffect | .serviceCompletion | .supplyRemoved => true

end Sys2Proof
end

