-- ==== Sys2Proof/Certificates/Slice0/Obligations.lean ====
section
/-! DEFINITION. The statements for the provers. A `Settled` state is one with nothing due, and
`s.Changes t fs` says that `t` differs from `s` at most in the listed fields (Sys2Proof/Safety.lean). -/

open Sys2Proof Sys2Proof.Machine

/-! ### The machine -/

/-- A step is the meaning of the command at the front of the queue, on the state with the queue's rest; on
an empty queue the part idles (the model's choice, log 16). Every command goes on to a next state, and none touches
the queue of commands (00_scope, "Time and events": each step is whole). -/
def Obligations.StepTakesTheFrontCommand : Prop :=
  (∀ s : State, s.pending = [] → step s = .next s) ∧
  (∀ (s : State) (c : Instr) (rest : List Instr), s.pending = c :: rest →
    step s = exec c { s with pending := rest }) ∧
  ∀ (c : Instr) (s : State), ∃ t, exec c s = .next t ∧ t.pending = s.pending

/-! ### Reset and power -/

/-- R24 at State.reset: every descriptor is VACANT with every value of R24, and the unit counters of R22 are
0; the slots hold no SENSOR event. -/
def Obligations.ResetLeavesDescriptorsVacant : Prop :=
  (∀ sel : Selector, State.reset.desc sel =
    { config := none, phase := .awaiting, age := 0, rejects := 0, lastT := none, lastRh := none,
      lastAir := none, lastWet := none, clamped := false, saturated := false, belowTable := false,
      unevaluated := false, accessed := false, version := 0, forwarded := none, formatRejects := 0,
      plausibilityRejects := 0 }) ∧
  (State.reset.counters.unknownSource = 0 ∧ State.reset.counters.coalesced = 0 ∧
    State.reset.counters.eqOverflow = 0 ∧ State.reset.counters.versionDiscard = 0) ∧
  ∀ i : Fin 16, ∀ e ∈ (State.reset.slot i).entries, e.kindBit ≠ 2

/-- What reset leaves in the other blocks (R27, R59, R75, R79, R99, R117, R136, R153, R170, R186). The unit number 1 and the
released pins are the model's choice (log 6). -/
def Obligations.ResetLeavesPowerOnValues : Prop :=
  let s := State.reset
  (s.svt.active = factoryTable ∧ s.svt.shadow = factoryTable ∧ s.svt.shadowState = .previous ∧
    s.svt.gen = 0) ∧
  (s.evalQueue = [] ∧ s.job = none ∧ ∀ z : Fin 32, s.zoneClose.get z = none) ∧
  (∀ z : Fin 32, s.zone z =
    { summary := false, fallback := true, swe := 0, sw := 0, n := 0, overflow := false,
      result := .none, closed := 0, overrun := false, worst := none }) ∧
  (∀ i : Fin 64, s.surface i =
    { config := none, grade := .blind, confirmed := false, source := none, margin := none, dwell := 0,
      changes := 0, version := 0 }) ∧
  (∀ i : Fin 8, s.thr.get i = { watch := 300, alert := 150, wet := 50, hyst := 40, dwell := 3 }) ∧
  (s.slot 15 =
      { binding := { kinds := 0b11000, idMatch := 0, idMask := 0, mode := .single, singleShot := false,
                     inhibit := false }
        state := .pending, entries := [.start 1 false 0 true], lost := false, failed := false, sent := 0 } ∧
    ∀ i : Fin 16, i ≠ 15 → s.slot i =
      { binding := { kinds := 0, idMatch := 0, idMask := 0, mode := .single, singleShot := false,
                     inhibit := false }
        state := .idle, entries := [], lost := false, failed := false, sent := 0 }) ∧
  (∀ p : Port, s.port p =
    { inForce := { rate := if p = .u then 1 else 2, parity := .even, rxInv := false, txInv := false },
      waiting := none, rx := .hunting, partWay := false, rxTurned := false, held := none, buffer := none, tx := .idle,
      count := LineCounters.zero, router := RouterCounters.zero, downward := [], hold := none,
      owed := false, settingsReply := false }) ∧
  s.turn =
    { state := .listen, replies := [], withU := none, budget := 0, sent := 0, run := 0, tag := 0,
      silence := 0, silent := false, silenceSeen := false, fq := [], collisions := 0,
      requestOverrun := 0, forwardDrop := 0 } ∧
  (s.mgmt = .idle ∧ s.config.epochLength = 60 ∧ s.config.silenceLimit = 10 ∧ s.epochCount = 0) ∧
  s.condense = false ∧ s.alarmLoss = false ∧ s.counters.reportLoss = 0 ∧ s.unitNo = 1 ∧ s.pending = []

/-- POWER_ON runs the power-on sequence: straps, values, CONDENSE released, COLD START in slot 15, and a
LINK_LOST event, which finds no place, for every dark port; the unit counters are 0 but for the events lost so (R22,
R24, R59, R117, R136, R191). -/
def Obligations.PowerOnRunsTheSequence : Prop :=
  ∀ (straps : BitVec 3) (s : State), ∃ t, exec (.powerOn straps) s = .next t ∧
    t.power = .running ∧ t.unitNo = straps.setWidth 4 + 1 ∧ t.pins = s.pins ∧ t.pending = s.pending ∧
    (∀ q : FloorPort, t.port (.floor q) = PortRec.powerOn (.floor q) (s.pins.los.get (floorIdx q))) ∧
    t.port .u = PortRec.powerOn .u false ∧
    t.slot 15 =
      { binding := { kinds := 0b11000, idMatch := 0, idMask := 0, mode := .single, singleShot := false,
                     inhibit := false }
        state := .pending, entries := [.start (straps.setWidth 4 + 1) false 0 true]
        lost := false, failed := false, sent := 0 } ∧
    (∀ i : Fin 16, i ≠ 15 → t.slot i = State.reset.slot i) ∧
    t.counters =
      { unknownSource := 0, coalesced := 0, eqOverflow := 0, versionDiscard := 0
        reportLoss := (floorPorts.filter fun q => s.pins.los.get (floorIdx q)).length } ∧
    State.reset.Changes t [.unitNo, .pins, .ports, .slots, .counters, .pending]

/-- RESET_ASSERTED abandons what is under way without counts or events and puts CONDENSE and the direction
control off; without supply they are off as well (R190, R191). A part so held takes no step but POWER_ON and
these two, and only follows the levels of its input pins (the model's choice, log 17). -/
def Obligations.ResetAndSupplyLossStopThePart : Prop :=
  ∀ s : State,
    (s.power ≠ .running → ∀ c : Instr, (∀ straps, c ≠ .powerOn straps) → c ≠ .resetAsserted →
      c ≠ .supplyRemoved → ∃ t, exec c s = .next t ∧ s.Changes t [.pins]) ∧
    (∃ t, exec .resetAsserted s = .next t ∧ t.power ≠ .running ∧
      t.job = none ∧ t.mgmt = .idle ∧ t.turn.replies = [] ∧ t.turn.withU = none ∧
      t.turn.collisions = s.turn.collisions ∧ t.turn.requestOverrun = s.turn.requestOverrun ∧
      t.turn.forwardDrop = s.turn.forwardDrop ∧
      (∀ p : Port, (t.port p).tx = .idle ∧ (t.port p).buffer = none ∧ (t.port p).hold = none ∧
        (∀ cs, (t.port p).rx ≠ .assembling cs) ∧ (t.port p).count = (s.port p).count ∧
        (t.port p).router = (s.port p).router) ∧
      t.condensePin = false ∧ t.udir = false ∧
      s.Changes t [.power, .ports, .job, .mgmt, .turn, .condense, .due]) ∧
    ∃ t, exec .supplyRemoved s = .next t ∧ t.power = .unpowered ∧ t.condensePin = false ∧
      t.udir = false

/-! ### Time -/

/-- A seconds tick: ages, the epoch timer's count, the silence counter, and nothing else (R16, R65, R163). That
SILENT is then due, and entered by a step of its own, is the model's form of the tick (log 1); the entry sets SILENT
and silence-seen, places the SILENCE event and evaluates the CONDENSE line (R163, R164, R189). -/
def Obligations.TickAdvancesTheTimersAndSilenceFollows : Prop :=
  ∀ s : State,
    (s.Settled → ∃ t, exec .secondsTick s = .next t ∧
      (∀ sel : Selector, t.desc sel =
        match (s.desc sel).config with
        | none => s.desc sel
        | some _ => { s.desc sel with age := min ((s.desc sel).age + 1) 65535 }) ∧
      t.epochCount = s.epochCount + 1 ∧
      t.turn = (if s.turn.silent then s.turn
        else { s.turn with silence := min (s.turn.silence + 1) 65535 }) ∧
      (t.due.silence = true ↔ s.turn.silent = false ∧ s.config.silenceLimit ≤ t.turn.silence) ∧
      t.due.restart = false ∧
      s.Changes t [.sdt, .epochCount, .turn, .due]) ∧
    (s.power = .running → s.due.silence = true →
      ∃ t, exec .silenceEntry s = .next t ∧
        t.turn = { s.turn with silent := true, silenceSeen := true } ∧
        t.due = { s.due with silence := false } ∧
        (s.raise (.link 4 .silence)).SameReports t ∧
        t.CondenseFollows ∧ s.Changes t ([.turn, .due] ++ reportFields))

/-- A sensor whose age has reached its limit goes STALE: for every kind its SENSOR event is raised if enabled, then
its probe notice acts. A SURFACE probe takes its record to BLIND unless CONFIRMED, with the GRADE event if enabled; a
WETNESS probe clears CONFIRMED, an AIR probe touches no record (R16, R17, R18, R93, R94, R96, R97). The order of the
events is the model's choice (log 9). -/
def Obligations.StalenessExpiryGoesStale : Prop :=
  ∀ (s : State) (sel : Selector) (c : SensorConfig), s.power = .running →
    (s.desc sel).config = some c → (s.desc sel).phase = .awaiting ∨ (s.desc sel).phase = .live →
    c.staleLimit ≤ (s.desc sel).age →
    let d := s.desc sel
    ∃ t, exec (.stalenessExpiry sel) s = .next t ∧
      t.desc sel = { d with phase := .stale } ∧ s.OtherDescs t sel ∧
      s.Changes t ([.sdt, .surfaces, .zones] ++ reportFields) ∧ s.ZonesKept t ∧
      s.Noticed t c.kind sel ∧
      (s.raiseAll (sensorEvents c sel d.state .stale d.age d.rejects ++ s.gradeEvents t)).SameReports t ∧
      (c.kind = .air →
        t = (s.setDesc sel { d with phase := .stale }).raiseAll
          (sensorEvents c sel d.state .stale d.age d.rejects))

/-- An epoch expiry closes every zone to NONE, to SATURATED or to a waiting snapshot, clears the accumulators and
sets close-overrun where a close still waits. The ZONE events of the zones closed NONE or SATURATED are raised where
enabled, then every COLLECTING slot becomes PENDING with its entries, flags and binding kept. An IDLE engine takes its
next job, the lowest-numbered waiting zone first (R41, R65, R66, R67, R73, R110). -/
def Obligations.EpochExpiryClosesEveryZone : Prop :=
  ∀ s : State, s.power = .running → s.config.epochLength ≤ s.epochCount →
    let atOnce := fun z : Fin 32 => (s.zone z).sw = 0 ∨ (s.zone z).overflow = true
    let entry := fun z : Fin 32 =>
      if (s.zone z).sw = 0 ∨ (s.zone z).overflow = true then s.zoneClose.get z
      else some { swe := (s.zone z).swe, sw := (s.zone z).sw, n := (s.zone z).n }
    let closed := fun z : Fin 32 =>
      { s.zone z with
        swe := 0, sw := 0, n := 0, overflow := false
        closed := if (s.zone z).sw = 0 then 0 else (s.zone z).n
        overrun := (s.zone z).overrun || (s.zoneClose.get z).isSome
        result :=
          if (s.zone z).sw = 0 then .none
          else if (s.zone z).overflow then .saturated
          else (s.zone z).result }
    let told := s.raiseAll ((List.finRange 32).filterMap fun z =>
      if atOnce z ∧ (s.zone z).summary = true then
        some (.zone z (closed z).result (closed z).closed (closed z).worst)
      else none)
    ∃ t, exec .epochExpiry s = .next t ∧ t.epochCount = 0 ∧ (∀ z : Fin 32, t.zone z = closed z) ∧
      (∀ i : Fin 16, t.slot i =
        if (told.slot i).state = .collecting then { told.slot i with state := .pending }
        else told.slot i) ∧
      t.counters = told.counters ∧ t.alarmLoss = told.alarmLoss ∧
      (s.job ≠ none →
        t.job = s.job ∧ t.evalQueue = s.evalQueue ∧ ∀ z : Fin 32, t.zoneClose.get z = entry z) ∧
      (s.job = none → ∃ u, s.Changes u [.epochCount, .zones, .zoneClose] ∧
        (∀ z : Fin 32, u.zone z = closed z) ∧ (∀ z : Fin 32, u.zoneClose.get z = entry z) ∧
        t.job = u.takeJob.job ∧ t.evalQueue = u.takeJob.evalQueue ∧
        t.zoneClose = u.takeJob.zoneClose) ∧
      (s.job = none → ∀ (z : Fin 32) (snap : Snapshot), entry z = some snap →
        (∀ y : Fin 32, y < z → entry y = none) →
        t.job = some (.zone z snap s.svt.gen) ∧
        ∀ y : Fin 32, t.zoneClose.get y = if y = z then none else entry y) ∧
      s.Changes t ([.epochCount, .zones, .zoneClose, .job, .evalQueue] ++ reportFields)

/-! ### Lines -/

/-- A receiver in HUNTING: 0x9B begins a frame with its marks, any other character is noise; the errors of
either are counted (R120, R125). What shows no start bit is no character, nor is anything received in BREAK or DOWN, or
on U while it transmits (R122, R123, R124, R131, R132). From its start cell to its end the port is part way through the
character (R119); that its start is an event of its own is the model's choice (log 3). What a receiver reads just after
a change of its receive inversion is DEDUCED (log 29). -/
def Obligations.CharacterInHunting : Prop :=
  ∀ (s : State) (p : Port) (l : LineChar) (commission : Bool), s.Settled →
    let r := s.port p
    let pin := s.setPins { s.pins with commission := commission }
    (s.hears p = false ∨ r.reads p l = none → ∀ ended : Bool,
      exec (.characterReceived p l ended commission) s = .next pin) ∧
    ∀ c : RxBits, r.reads p l = some c → s.hears p = true → r.held = none →
      exec (.characterReceived p l false commission) s = .next (pin.setPort p { r with partWay := true }) ∧
      (lineHeld p r.inForce l = false → r.rx = .hunting →
        let par := parityError r.inForce.parity c
        exec (.characterReceived p l true commission) s =
          .next (pin.setPort p
            { r with
              rx := if c.data = 0x9B then .assembling [{ data := c.data, marked := par || !c.stopBit }]
                else .hunting
              partWay := false
              rxTurned := false
              count :=
                { r.count with
                  noise := if c.data = 0x9B then r.count.noise else min (r.count.noise + 1) 65535
                  parityError :=
                    if par then min (r.count.parityError + 1) 65535 else r.count.parityError
                  framingError :=
                    if c.stopBit then r.count.framingError
                    else min (r.count.framingError + 1) 65535 } }))

/-- A character in ASSEMBLING joins the frame, and completes it at the size its length byte sets: a frame that reads
back is good and enters the completed-frame buffer; a marked character or a wrong CRC is DAMAGED, a bad scope code
MALFORMED; and a length byte above 48 is MALFORMED at once. Whatever becomes of the frame, a parity error and a framing
error of the character each advance their counter (R120, R125, R126, R128, R129). -/
def Obligations.CompletedFramesAreGoodOrCounted : Prop :=
  ∀ (s : State) (p : Port) (chars : List RxChar) (l : LineChar) (c : RxBits) (commission : Bool),
    s.Settled → s.hears p = true → (s.port p).held = none → (s.port p).rx = .assembling chars →
    (s.port p).reads p l = some c → lineHeld p (s.port p).inForce l = false →
    let r := s.port p
    let par := parityError r.inForce.parity c
    let bad := par || !c.stopBit
    let all := chars ++ [{ data := c.data, marked := bad }]
    ∃ t, exec (.characterReceived p l true commission) s = .next t ∧
      s.OtherPorts t p ∧ s.Changes t [.pins, .ports] ∧
      t.pins = { s.pins with commission := commission } ∧
      t.port p =
        { r with
          rx := (t.port p).rx, partWay := false, rxTurned := false, buffer := (t.port p).buffer
          count :=
            { r.count with
              framesReceived := (t.port p).count.framesReceived
              damaged := (t.port p).count.damaged
              malformed := (t.port p).count.malformed
              parityError :=
                if par then min (r.count.parityError + 1) 65535 else r.count.parityError
              framingError :=
                if c.stopBit then r.count.framingError
                else min (r.count.framingError + 1) 65535 } } ∧
      (all.length < 8 ∨ (∃ l : RxChar, all[7]? = some l ∧ l.data.toNat ≤ 48 ∧
          all.length < l.data.toNat + 10) →
        (t.port p).rx = .assembling all ∧ (t.port p).buffer = none ∧
        (t.port p).count.framesReceived = r.count.framesReceived ∧
        (t.port p).count.damaged = r.count.damaged ∧
        (t.port p).count.malformed = r.count.malformed) ∧
      (∀ f : Frame, f.payload.length ≤ 48 → all.map RxChar.data = encodeFrame f →
        (∀ x ∈ all, x.marked = false) →
        t.port p = { r with
          rx := .hunting
          partWay := false
          rxTurned := false
          buffer := some f
          count := { r.count with framesReceived := min (r.count.framesReceived + 1) 65535 } }) ∧
      (∀ l : RxChar, all[7]? = some l → l.data.toNat ≤ 48 → all.length = l.data.toNat + 10 →
        (∃ x ∈ all, x.marked = true) ∨ decodeFrame (all.map RxChar.data) = .crcMismatch →
        (t.port p).rx = .hunting ∧ (t.port p).buffer = none ∧
        (t.port p).count.damaged = min (r.count.damaged + 1) 65535 ∧
        (t.port p).count.malformed = r.count.malformed ∧
        (t.port p).count.framesReceived = r.count.framesReceived) ∧
      (∀ l : RxChar, all[7]? = some l → l.data.toNat ≤ 48 → all.length = l.data.toNat + 10 →
        (∀ x ∈ all, x.marked = false) → decodeFrame (all.map RxChar.data) = .badScope →
        (t.port p).rx = .hunting ∧ (t.port p).buffer = none ∧
        (t.port p).count.malformed = min (r.count.malformed + 1) 65535 ∧
        (t.port p).count.damaged = r.count.damaged ∧
        (t.port p).count.framesReceived = r.count.framesReceived) ∧
      (chars.length = 7 → 48 < c.data.toNat →
        (t.port p).rx = .hunting ∧ (t.port p).buffer = none ∧
        (t.port p).count.malformed = min (r.count.malformed + 1) 65535 ∧
        (t.port p).count.damaged = r.count.damaged ∧
        (t.port p).count.framesReceived = r.count.framesReceived)

/-- Gap and BREAK: a gap abandons a frame in assembly; a level that is the pulse state under the port's receive
inversion is a BREAK, which abandons the frame, is counted and absorbs a held character; the dark level ends it and
returns the receiver to HUNTING; a held character that no BREAK absorbs is finished as if it had just been received
(R122, R123, R127). That BREAK_RECOGNISED at the dark level and BREAK_END at the pulse level change nothing is the
model's choice (log 2). -/
def Obligations.GapAndBreakAbandonTheFrame : Prop :=
  ∀ s : State, s.Settled →
    (∀ (p : Port) (cs : List RxChar), (s.port p).rx = .assembling cs → (s.port p).held = none →
      (s.port p).partWay = false → exec (.gapTimeout p) s = .next (s.setPort p
        { s.port p with
          rx := .hunting
          count := { (s.port p).count with
            truncated := min ((s.port p).count.truncated + 1) 65535 } })) ∧
    ∀ q : FloorPort,
    let r := s.port (.floor q)
    let dark := r.inForce.rxInv
    (∀ (l : LineChar) (c : RxBits) (commission : Bool), s.hears (.floor q) = true →
      r.held = none → r.reads (.floor q) l = some c → lineHeld (.floor q) r.inForce l = true →
      c.stopBit = false ∧ exec (.characterReceived (.floor q) l true commission) s =
        .next ((s.setPins { s.pins with commission := commission }).setPort (.floor q)
          { r with partWay := true, rxTurned := false, held := some c })) ∧
    (s.hears (.floor q) = true →
      exec (.breakRecognised { port := q, level := !dark }) s = .next (s.setPort (.floor q)
        { r with
          rx := .broken
          partWay := false
          rxTurned := false
          held := none
          count := { r.count with
            breaks := min (r.count.breaks + 1) 65535
            truncated :=
              if r.rx = .hunting then r.count.truncated
              else min (r.count.truncated + 1) 65535 } })) ∧
    exec (.breakRecognised { port := q, level := dark }) s = .next s ∧
    exec (.breakEnd { port := q, level := !dark }) s = .next s ∧
    (r.rx = .broken → exec (.breakEnd { port := q, level := dark }) s =
      .next (s.setPort (.floor q) { r with rx := .hunting })) ∧
    (∀ (l : LineChar) (c : RxBits), s.hears (.floor q) = true → r.held = some c →
      r.reads (.floor q) l = some c → lineHeld (.floor q) r.inForce l = false →
      exec (.breakEnd { port := q, level := dark }) s =
        exec (.characterReceived (.floor q) l true s.pins.commission)
          (s.setPort (.floor q) { r with partWay := true, held := none }))

/-- The end of a floor frame: counted, a reply ends what was owed, and the transmitter takes the held reply,
else the head of the downward queue (R130, R142, R149). That settings waiting do not come between the two frames is the
model's choice (log 11). -/
def Obligations.FloorFrameSentChoosesTheNext : Prop :=
  ∀ (s : State) (q : FloorPort) (f : Frame) (reply : Bool), s.Settled →
    (s.port (.floor q)).tx = .sending f reply →
    let r := s.port (.floor q)
    let r1 := { r with
      owed := r.owed && !reply
      count := { r.count with framesSent := min (r.count.framesSent + 1) 65535 } }
    (∀ g : Frame, r.rx ≠ .down → r.hold = some g → exec (.floorFrameSent q) s =
      .next (s.setPort (.floor q) { r1 with hold := none, tx := .sending g true })) ∧
    (∀ (g : Frame) (rest : List Frame), r.rx ≠ .down → r.hold = none → r.downward = g :: rest →
      exec (.floorFrameSent q) s =
        .next (s.setPort (.floor q) { r1 with downward := rest, tx := .sending g false })) ∧
    (r.rx = .down ∨ (r.hold = none ∧ r.downward = []) → exec (.floorFrameSent q) s =
      .next (s.setPort (.floor q) { r1 with tx := .idle }))

/-- Loss of signal takes an UP port DOWN, with the effects and counts on that port and a LINK_LOST event;
the release takes a DOWN port UP with a LINK_RESTORED event; a second assertion or release changes nothing
(R132, R133, R149, R151). The cut-off of a frame at once is the model's choice (log 25). -/
def Obligations.LossOfSignalFollowsTheInput : Prop :=
  ∀ (s : State) (q : FloorPort), s.Settled →
    let r := s.port (.floor q)
    let lost := { s.pins with los := s.pins.los.set (floorIdx q) true }
    let back := { s.pins with los := s.pins.los.set (floorIdx q) false }
    (r.rx ≠ .down → ∃ t, exec (.losAsserted q) s = .next t ∧ t.pins = lost ∧
      t.port (.floor q) =
        { r with
          rx := .down, partWay := false, rxTurned := false, held := none, tx := .idle, downward := [], hold := none
          owed := r.owed && !(r.hold.isSome || (match r.tx with
            | .sending _ reply => reply
            | .idle => false))
          count := { r.count with
            truncated := (match r.rx with
              | .assembling _ => min (r.count.truncated + 1) 65535
              | _ => r.count.truncated)
            transmitAbort :=
              if r.tx = .idle then r.count.transmitAbort else min (r.count.transmitAbort + 1) 65535
            replyDropped :=
              if r.hold = none then r.count.replyDropped else min (r.count.replyDropped + 1) 65535 }
          router := { r.router with
            downwardDrop := min (r.router.downwardDrop + r.downward.length) 65535 } } ∧
      s.OtherPorts t (.floor q) ∧
      (s.raise (.link (floorIdx q).castSucc .lost)).SameReports t ∧
      s.Changes t ([.pins, .ports] ++ reportFields)) ∧
    (r.rx = .down → exec (.losAsserted q) s = .next (s.setPins lost)) ∧
    (r.rx = .down → ∃ t, exec (.losReleased q) s = .next t ∧ t.pins = back ∧
      t.port (.floor q) = PortRec.chooseTx { r with rx := .hunting } ∧
      (r.tx = .idle → r.hold = none → r.downward = [] →
        t.port (.floor q) = { r with rx := .hunting }) ∧
      s.OtherPorts t (.floor q) ∧
      (s.raise (.link (floorIdx q).castSucc .restored)).SameReports t ∧
      s.Changes t ([.pins, .ports] ++ reportFields)) ∧
    (r.rx ≠ .down → exec (.losReleased q) s = .next (s.setPins back))

/-- Settings waiting take effect at a frame boundary with no reply to their WRITE owed, and at no other moment (R119,
R134): at SETTINGS_TAKE_EFFECT, and at the latest before the next command that could use them. A port that is part way
through a character keeps the settings it has, whatever comes meanwhile, and the character ends under them. That a
character's start is an event of its own is the model's choice (log 3), and that a SETTINGS_TAKE_EFFECT at any other
moment changes nothing is too (log 2). A change of the receive inversion that turns the idle line of U into space begins
one character of value 0 with a framing error, and after it nothing is received until the line changes (R124); that it
does so from the moment of the change on is DEDUCED (log 29). -/
def Obligations.SettingsTakeEffectAtABoundary : Prop :=
  ∀ (s : State) (p : Port),
    let r := s.port p
    (s.power = .running → r.waiting = none ∨ ¬ r.Ready → exec (.settingsTakeEffect p) s = .next s) ∧
    (∀ w : Settings, s.power = .running → r.waiting = some w → r.Ready →
      let turned := decide (w.rxInv ≠ r.inForce.rxInv)
      let s1 := s.setPort p { r with inForce := w, waiting := none, rxTurned := r.rxTurned || turned }
      exec (.settingsTakeEffect p) s = .next s1 ∧
      (s1.Settled → ∀ (q : Port) (g : FloorPort) (l : LineChar) (ended commission : Bool) (e : Envelope)
        (payload : List Byte), ∀ i ∈ [Instr.characterReceived q l ended commission, .gapTimeout q,
          .uTransmitStart, .uFrameSent, .floorFrameSent g, .nodeCmd e payload, .sample g e payload,
          .secondsTick, .serviceCompletion, .losReleased g], exec i s = exec i s1) ∧
      (s1.Settled → p = .u → turned = true → ∀ commission : Bool,
        let idle := !r.inForce.rxInv
        let still : Instr := .characterReceived .u
          { before := idle, cells := List.replicate (characterTime w.parity) [idle] } true commission
        let pin := { s.pins with commission := commission }
        let t := (s.setPins pin).setPort .u
          { r with
            inForce := w, waiting := none, rxTurned := false
            count :=
              { r.count with
                noise := min (r.count.noise + 1) 65535
                framingError := min (r.count.framingError + 1) 65535
                parityError :=
                  if w.parity = .odd then min (r.count.parityError + 1) 65535
                  else r.count.parityError } }
        exec still s = .next t ∧ exec still t = .next t)) ∧
    (s.Settled → r.partWay = true → ∀ w : Settings, r.waiting = some w →
      (∀ (q : Port) (l : LineChar) (ended commission : Bool), q ≠ p →
        ∀ i ∈ [Instr.secondsTick, .serviceCompletion, .characterReceived q l ended commission,
          .gapTimeout p, .uTransmitStart, .settingsTakeEffect p],
          ∃ t, exec i s = .next t ∧ (t.port p).inForce = r.inForce ∧ (t.port p).waiting = some w ∧
            (t.port p).partWay = true) ∧
      ∀ (l : LineChar) (c : RxBits) (commission : Bool), s.hears p = true → r.held = none →
        r.reads p l = some c → lineHeld p r.inForce l = false →
        ∃ t, exec (.characterReceived p l true commission) s = .next t ∧
          (t.port p).inForce = r.inForce ∧ (t.port p).waiting = some w ∧ (t.port p).partWay = false ∧
          (r.rx = .hunting → c.data = 0x9B → (t.port p).rx = .assembling
            [{ data := c.data, marked := parityError r.inForce.parity c || !c.stopBit }]))

/-! ### The router -/

/-- Frames the router drops: other stations' traffic on U without a count, frames of unknown kind and
misdirected frames with one count, a SAMPLE or NODE_STATUS of node 0 as misdirected, one for a VACANT selector as
unknown-source (R140, R141, R143, R145, R147, R6). A NODE_STATUS of a present descriptor joins the forward queue with
its source rewritten, or is dropped and counted when the queue is full (R139, R141, R165). -/
def Obligations.FloorFramesAreForwardedOrCounted : Prop :=
  ∀ s : State, s.Settled →
    (∀ f : Frame, s.hears .u = true →
      f.env.srcUnit ≠ 0 ∨ (f.env.dstUnit ≠ s.unitNo ∧ f.env.dstUnit ≠ 15) →
      exec (.foreignFrameIgnored f) s = .next s) ∧
    (∀ (p : Port) (f : Frame), s.hears p = true → f.kind = 0 ∨ 11 ≤ f.kind.toNat →
      (p = .u → f.env.srcUnit = 0 ∧ (f.env.dstUnit = s.unitNo ∨ f.env.dstUnit = 15)) →
      exec (.unknownKindFrame p f) s = .next (s.countRouter p fun k =>
        { k with unknownKind := min (k.unknownKind + 1) 65535 })) ∧
    (∀ (q : FloorPort) (f : Frame), s.hears (.floor q) = true →
      f.kind ∈ [3#4, 4#4, 5#4, 7#4, 8#4, 9#4, 10#4] ∨ (f.kind = 6 ∧ f.env.dstScope ≠ .unit) →
      exec (.misdirectedFrame (.floor q) f) s = .next (s.countRouter (.floor q) fun k =>
        { k with misdirected := min (k.misdirected + 1) 65535 })) ∧
    (∀ f : Frame, s.hears .u = true → f.env.srcUnit = 0 →
      f.env.dstUnit = s.unitNo ∨ f.env.dstUnit = 15 →
      (f.kind ∈ [8#4, 6#4] ∧ (f.env.dstUnit ≠ s.unitNo ∨ f.env.dstScope ≠ .unit)) ∨
        (f.kind = 10 ∧ f.env.dstUnit ≠ s.unitNo) ∨ (f.kind = 3 ∧ f.env.dstScope = .unit) ∨
        f.kind ∈ [1#4, 2#4, 4#4, 5#4, 7#4, 9#4] →
      exec (.misdirectedFrame .u f) s = .next (s.countRouter .u fun k =>
        { k with misdirected := min (k.misdirected + 1) 65535 })) ∧
    (∀ (q : FloorPort) (e : Envelope) (payload : List Byte), s.hears (.floor q) = true →
      (e.srcNode = 0 → exec (.sample q e payload) s = .next (s.countRouter (.floor q) fun k =>
        { k with misdirected := min (k.misdirected + 1) 65535 })) ∧
      (e.srcNode ≠ 0 → (s.desc (floorSelector q e.srcNode)).config = none →
        exec (.sample q e payload) s = .next { s with counters :=
          { s.counters with unknownSource := min (s.counters.unknownSource + 1) 65535 } })) ∧
    (∀ (q : FloorPort) (e : Envelope) (payload : List Byte), s.hears (.floor q) = true →
      let sel := floorSelector q e.srcNode
      let f : Frame :=
        { env := { e with srcUnit := s.unitNo, srcScope := floorScope q }, kind := 2,
          payload := payload }
      (e.srcNode = 0 → exec (.nodeStatus q e payload) s = .next (s.countRouter (.floor q) fun k =>
        { k with misdirected := min (k.misdirected + 1) 65535 })) ∧
      (e.srcNode ≠ 0 → (s.desc sel).config = none →
        exec (.nodeStatus q e payload) s = .next { s with counters :=
          { s.counters with unknownSource := min (s.counters.unknownSource + 1) 65535 } }) ∧
      (e.srcNode ≠ 0 → (s.desc sel).config ≠ none → s.turn.fq.length < 32 →
        exec (.nodeStatus q e payload) s = .next { s with turn :=
          { s.turn with fq := s.turn.fq ++ [f] } }) ∧
      (e.srcNode ≠ 0 → (s.desc sel).config ≠ none → 32 ≤ s.turn.fq.length →
        exec (.nodeStatus q e payload) s = .next { s with turn :=
          { s.turn with forwardDrop := min (s.turn.forwardDrop + 1) 65535 } }))

/-- NODE_CMD: each floor port the scope names takes a copy if it is UP with fewer than 4 frames queued, and
transmits at once if it is free; otherwise the copy is dropped and counted (R146, R148, R149). -/
def Obligations.NodeCmdIsCopiedPortByPort : Prop :=
  ∀ (s : State) (e : Envelope) (payload : List Byte), s.Settled → s.hears .u = true →
    e.srcUnit = 0 → e.dstUnit = s.unitNo ∨ e.dstUnit = 15 → e.dstScope ≠ .unit →
    let f : Frame := { env := e, kind := 3, payload := payload }
    ∃ t, exec (.nodeCmd e payload) s = .next t ∧ t.port .u = s.port .u ∧ s.Changes t [.ports] ∧
      ∀ q : FloorPort,
        let r := s.port (.floor q)
        (e.dstScope ≠ floorScope q → e.dstScope ≠ .allfloor →
          t.port (.floor q) = s.port (.floor q)) ∧
        (e.dstScope = floorScope q ∨ e.dstScope = .allfloor →
          (r.rx = .down ∨ 4 ≤ r.downward.length → t.port (.floor q) =
            { r with router := { r.router with
                downwardDrop := min (r.router.downwardDrop + 1) 65535 } }) ∧
          (r.rx ≠ .down → r.downward.length < 4 → r.tx ≠ .idle →
            t.port (.floor q) = { r with downward := r.downward ++ [f] }) ∧
          (r.rx ≠ .down → r.tx = .idle → r.hold = none → r.downward = [] →
            t.port (.floor q) = { r with tx := .sending f false }))

/-- A request that arrives while a reply is owed on its port is dropped and counted, whatever it asks, a malformed one
included (R142, R147, R156). -/
def Obligations.RequestWhileReplyOwedIsDropped : Prop :=
  ∀ (s : State) (p : Port) (e : Envelope) (commission : Bool),
    s.Settled → s.hears p = true → s.Addressed p e → (s.port p).owed = true →
    let s1 := s.setPins { s.pins with commission := commission }
    let dropped := match p with
      | .floor _ => s1.countRouter p fun k =>
          { k with requestOverrun := min (k.requestOverrun + 1) 65535 }
      | .u => { s1 with turn :=
          { s1.turn with requestOverrun := min (s1.turn.requestOverrun + 1) 65535 } }
    (∀ (table : Byte) (r : MgmtOperand), r.env = e → r.commission = commission →
      ∀ i ∈ requestRows p table r, exec i s = .next dropped) ∧
    ∀ payload : List Byte, OtherRequest payload →
      exec (.malformedRequest p e commission payload) s = .next dropped

/-- A request that reaches an engine that is not IDLE is answered BUSY at once, echoing command, index, count and tag,
and the engine is undisturbed. So is a malformed one; what its payload is too short to hold is given as 0 (R173,
R177). -/
def Obligations.RequestToABusyEngineIsAnsweredBusy : Prop :=
  ∀ (s : State) (p : Port) (e : Envelope) (commission : Bool),
    s.Settled → s.hears p = true → s.Addressed p e → (s.port p).owed = false → s.mgmt ≠ .idle →
    let s1 := s.asked p commission
    let answers := fun (i : Instr) (busy : Frame) =>
      (p = .u → exec i s = .next (s1.setTurn (s.turn.handed busy .mgmt))) ∧
      (p ≠ .u → (s.port p).tx = .idle →
        exec i s = .next (s1.setPort p
          { s.port p with owed := true, hold := none, tx := .sending busy true })) ∧
      (p ≠ .u → (s.port p).tx ≠ .idle →
        exec i s = .next (s1.setPort p { s.port p with owed := true, hold := some busy }))
    (∀ (table : Byte) (r : MgmtOperand), r.env = e → r.commission = commission →
      ∀ i ∈ requestRows p table r,
        answers i (replyTo s.unitNo p e (commandCode i) 1 (rowIndex i r) r.count [])) ∧
    ∀ payload : List Byte, OtherRequest payload →
      answers (.malformedRequest p e commission payload)
        (replyTo s.unitNo p e (payload.getD 0 0) 1 (payload.getD 2 0) (payload.getD 3 0) [])

/-! ### Samples -/

/-- How a payload is read: the lengths and fields of the five forms, the kind code, then FAULT (R3, R7,
R8, R11, 12.3). -/
def Obligations.SamplePayloadsAreReadByForm : Prop :=
  ∀ (c : SensorConfig) (payload : List Byte),
    (payload.length ≠ (match c.kind with
        | .air => if c.ext = 0 then 4 else 5
        | .surface => if c.ext = 0 then 2 else 3
        | .wetness => 2) → readSample c payload = .format) ∧
    (∀ a b x y : Byte, payload = [a, b, x, y] → c.kind = .air → c.ext = 0 →
      readSample c payload =
        .reading (.air ((a ++ b : BitVec 16).toInt * 10) ((x ++ y : BitVec 16).toNat * 10))) ∧
    (∀ st a b x y : Byte, payload = [st, a, b, x, y] → c.kind = .air → c.ext ≠ 0 →
      readSample c payload =
        if st.toNat % 4 ≠ 1 then .format
        else if 128 ≤ st.toNat then .fault
        else .reading (.air (a ++ b : BitVec 16).toInt (x ++ y : BitVec 16).toNat)) ∧
    (∀ a b : Byte, payload = [a, b] → c.kind = .surface → c.ext = 0 →
      readSample c payload = .reading (.surface ((a ++ b : BitVec 16).toInt * 10))) ∧
    (∀ st a b : Byte, payload = [st, a, b] → c.kind = .surface → c.ext ≠ 0 →
      readSample c payload =
        if st.toNat % 4 ≠ 2 then .format
        else if 128 ≤ st.toNat then .fault
        else .reading (.surface (a ++ b : BitVec 16).toInt)) ∧
    (∀ st v : Byte, payload = [st, v] → c.kind = .wetness →
      readSample c payload =
        if st.toNat % 4 ≠ 3 then .format
        else if 128 ≤ st.toNat then .fault
        else .reading (.wetness (if v = 0 then .dry else .water)))

/-- A rejected sample: its counter, the reject count held at 3, SUSPECT at the third with its SENSOR event if enabled
and its probe notice, and nothing of the stored values; no job is offered. A RAW copy is offered before the checks; the
REJECTED frame is offered in mode ENRICHED, and in mode CHANGED at the rejection that moves the sensor into SUSPECT
(R6, R7, R8, R12, R13, R17, R18, R166). The count of 3 in the event is DEDUCED (log 10), the order of the events is the
model's choice (log 9), and so is that mode CHANGED offers the frame of such a rejection without the test of R167 (log
28). -/
def Obligations.RejectedSampleCountsAndSuspects : Prop :=
  ∀ (s : State) (q : FloorPort) (e : Envelope) (payload : List Byte) (c : SensorConfig), s.Settled →
    s.hears (.floor q) = true → e.srcNode ≠ 0 →
    (s.desc (floorSelector q e.srcNode)).config = some c →
    let sel := floorSelector q e.srcNode
    let d := s.desc sel
    let outside := fun t : Int =>
      max (-4000) (min 8500 (t + c.tOffset)) < c.tLo ∨ c.tHi < max (-4000) (min 8500 (t + c.tOffset))
    let format := readSample c payload = .format
    let plausibility := readSample c payload = .fault ∨
      (∃ t rh, readSample c payload = .reading (.air t rh) ∧ outside t) ∨
      (∃ t, readSample c payload = .reading (.surface t) ∧ outside t)
    let moves := 2 ≤ d.rejects ∧ d.phase ≠ .suspect
    let value : RefValue := match c.kind with
      | .air => .air (d.lastAir.map AirResult.td)
      | .surface => .surfaceDetached
      | .wetness => .wetness d.lastWet
    format ∨ plausibility →
    ∃ v, s.OtherDescs v sel ∧
      s.Changes v ([.sdt, .surfaces, .zones, .turn] ++ reportFields) ∧ s.ZonesKept v ∧
      (v.desc sel =
        { d with
          rejects := min 3 (d.rejects + 1)
          phase := if 2 ≤ d.rejects then .suspect else d.phase
          formatRejects := (v.desc sel).formatRejects
          plausibilityRejects := (v.desc sel).plausibilityRejects }) ∧
      (format → (v.desc sel).formatRejects = min (d.formatRejects + 1) 65535 ∧
        (v.desc sel).plausibilityRejects = d.plausibilityRejects) ∧
      (plausibility → (v.desc sel).plausibilityRejects = min (d.plausibilityRejects + 1) 65535 ∧
        (v.desc sel).formatRejects = d.formatRejects) ∧
      v.turn = s.rawTurn c q e payload ∧
      (moves → s.Noticed v c.kind sel) ∧ (¬ moves → v.surfaces = s.surfaces) ∧
      (s.raiseAll ((if moves then sensorEvents c sel d.state .suspect d.age 3 else [])
        ++ s.gradeEvents v)).SameReports v ∧
      (c.mode = .enriched ∨ (c.mode = .changed ∧ moves) → exec (.sample q e payload) s =
        .next (v.offered sel (rejectPayload sel (v.desc sel) c.kind) value)) ∧
      (c.mode = .off ∨ c.mode = .raw ∨ (c.mode = .changed ∧ ¬ moves) →
        exec (.sample q e payload) s = .next v) ∧
      ∃ form flags rest, rejectPayload sel (v.desc sel) c.kind =
          [form, sel, BitVec.ofNat 8 (v.desc sel).state.code, flags] ++ rest ∧
        flags.getLsbD 4 = true

/-- An accepted AIR sample: correction, state, stored values, the SENSOR event of a recovery from STALE or SUSPECT, the
RAW copy, and the offer of its job with its four outcomes (R6, R9, R10, R14, R17, R19, R41). The age and the count of 0
in the event are DEDUCED (log 10). -/
def Obligations.AirSampleIsAccepted : Prop :=
  ∀ (s : State) (q : FloorPort) (e : Envelope) (payload : List Byte) (c : SensorConfig) (t : Int)
    (rh : Nat), s.Settled → s.hears (.floor q) = true → e.srcNode ≠ 0 →
    (s.desc (floorSelector q e.srcNode)).config = some c → readSample c payload = .reading (.air t rh) →
    let sel := floorSelector q e.srcNode
    let d := s.desc sel
    let tc := max (-4000) (min 8500 (t + c.tOffset))
    let g : Nat := if c.ext = 0 then 4096 else c.ext.toNat
    let sum : Int := ((rh * g + 2048) / 4096 : Nat) + c.rhOffset
    let rc : Nat := (max 0 (min 10000 sum)).toNat
    let clamped := decide (t + c.tOffset < -4000 ∨ 8500 < t + c.tOffset ∨ sum < 0)
    let saturated := decide (10000 < sum)
    let job : SampleJob :=
      { sel := sel, reading := .air tc rc saturated, clamped := clamped, version := d.version }
    let told := s.raiseAll (recoveryEvents c sel d)
    c.tLo ≤ tc → tc ≤ c.tHi →
    ∃ u, exec (.sample q e payload) s = .next u ∧ s.OtherDescs u sel ∧
      u.desc sel =
        { d with
          phase := .live, age := 0, rejects := 0, lastT := some tc, lastRh := some rc
          clamped := clamped, saturated := saturated, unevaluated := (u.desc sel).unevaluated } ∧
      u.turn = s.rawTurn c q e payload ∧ u.slots = told.slots ∧ u.alarmLoss = told.alarmLoss ∧
      s.Changes u ([.sdt, .evalQueue, .zoneClose, .job, .turn] ++ reportFields) ∧
      (s.job = none → s.evalQueue = [] → (∀ z : Fin 32, s.zoneClose.get z = none) →
        u.job = some (.air sel tc rc clamped saturated s.svt.gen d.version) ∧ u.evalQueue = [] ∧
        u.zoneClose = s.zoneClose ∧
        (u.desc sel).unevaluated = d.unevaluated ∧ u.counters = told.counters) ∧
      (s.job ≠ none → (∀ x ∈ s.evalQueue, x.sel ≠ sel) → s.evalQueue.length < 32 →
        u.job = s.job ∧ u.zoneClose = s.zoneClose ∧ u.evalQueue = s.evalQueue ++ [job] ∧
        (u.desc sel).unevaluated = d.unevaluated ∧ u.counters = told.counters) ∧
      (s.job ≠ none → (∀ x ∈ s.evalQueue, x.sel ≠ sel) → 32 ≤ s.evalQueue.length →
        u.job = s.job ∧ u.zoneClose = s.zoneClose ∧ u.evalQueue = s.evalQueue ∧
        (u.desc sel).unevaluated = true ∧
        u.counters =
          { told.counters with eqOverflow := min (s.counters.eqOverflow + 1) 65535 }) ∧
      (∀ x ∈ s.evalQueue, x.sel = sel → u.job = s.job ∧ u.zoneClose = s.zoneClose ∧
        u.evalQueue = s.evalQueue.map (fun y =>
          if y.sel = sel then { job with version := y.version } else y) ∧
        u.counters = { told.counters with coalesced := min (s.counters.coalesced + 1) 65535 } ∧
        (u.desc sel).unevaluated = d.unevaluated)

/-- An accepted SURFACE sample: temperature and CLAMPED stored, SATURATED cleared, the humidity left, the SENSOR event of
a recovery, the RAW copy, and the job offered with its four outcomes; in an idle engine it is taken at once, bound to
the record that names it (R6, R9, R14, R17, R19, R41, R42). The age and the count of 0 in the event are DEDUCED (log
10). -/
def Obligations.SurfaceSampleIsAccepted : Prop :=
  ∀ (s : State) (q : FloorPort) (e : Envelope) (payload : List Byte) (c : SensorConfig) (t : Int),
    s.Settled → s.hears (.floor q) = true → e.srcNode ≠ 0 →
    (s.desc (floorSelector q e.srcNode)).config = some c → readSample c payload = .reading (.surface t) →
    let sel := floorSelector q e.srcNode
    let d := s.desc sel
    let tc := max (-4000) (min 8500 (t + c.tOffset))
    let clamped := decide (t + c.tOffset < -4000 ∨ 8500 < t + c.tOffset)
    let job : SampleJob :=
      { sel := sel, reading := .surface tc, clamped := clamped, version := d.version }
    let told := s.raiseAll (recoveryEvents c sel d)
    c.tLo ≤ tc → tc ≤ c.tHi →
    ∃ u, exec (.sample q e payload) s = .next u ∧ s.OtherDescs u sel ∧
      u.desc sel =
        { d with
          phase := .live, age := 0, rejects := 0, lastT := some tc, clamped := clamped
          saturated := false, unevaluated := (u.desc sel).unevaluated } ∧
      u.turn = s.rawTurn c q e payload ∧ u.slots = told.slots ∧ u.alarmLoss = told.alarmLoss ∧
      s.Changes u ([.sdt, .evalQueue, .zoneClose, .job, .turn] ++ reportFields) ∧
      (s.job ≠ none → (∀ x ∈ s.evalQueue, x.sel ≠ sel) → s.evalQueue.length < 32 →
        u.job = s.job ∧ u.zoneClose = s.zoneClose ∧ u.evalQueue = s.evalQueue ++ [job] ∧
        u.counters = told.counters ∧
        (u.desc sel).unevaluated = d.unevaluated) ∧
      (s.job ≠ none → (∀ x ∈ s.evalQueue, x.sel ≠ sel) → 32 ≤ s.evalQueue.length →
        u.job = s.job ∧ u.zoneClose = s.zoneClose ∧ u.evalQueue = s.evalQueue ∧
        (u.desc sel).unevaluated = true ∧
        u.counters =
          { told.counters with eqOverflow := min (s.counters.eqOverflow + 1) 65535 }) ∧
      (∀ x ∈ s.evalQueue, x.sel = sel → u.job = s.job ∧ u.zoneClose = s.zoneClose ∧
        u.evalQueue = s.evalQueue.map (fun y =>
          if y.sel = sel then { job with version := y.version } else y) ∧
        u.counters = { told.counters with coalesced := min (s.counters.coalesced + 1) 65535 } ∧
        (u.desc sel).unevaluated = d.unevaluated) ∧
      (s.job = none → s.evalQueue = [] → (∀ z : Fin 32, s.zoneClose.get z = none) →
        u.evalQueue = [] ∧ u.zoneClose = s.zoneClose ∧
        u.counters = told.counters ∧ (u.desc sel).unevaluated = d.unevaluated ∧
        ((∀ i : Fin 64, ∀ k : SurfaceConfig, (s.surface i).config = some k → k.probe ≠ sel) →
          u.job = some (.surface sel tc clamped s.svt.gen d.version none)) ∧
        ∀ (i : Fin 64) (k : SurfaceConfig), (s.surface i).config = some k → k.probe = sel →
          (∀ (j : Fin 64) (l : SurfaceConfig), (s.surface j).config = some l → l.probe = sel → j = i) →
          ∃ b : Binding, u.job = some (.surface sel tc clamped s.svt.gen d.version (some b)) ∧
            b.surface = i ∧ b.version = (s.surface i).version)

/-- An accepted WETNESS sample stores its value, sets the accessed flag, raises the SENSOR event of a recovery, and acts
on every in-use record that names the pad: WATER sets WET and CONFIRMED, with the GRADE event of a change, DRY clears
CONFIRMED; then its frame meets the forward mode, after the RAW copy that mode RAW offers (R6, R14, R15, R17, R90, R91,
R96, R97). The age and the count of 0 in the SENSOR event are DEDUCED (log 10); the order of the events is the model's
choice (log 9). -/
def Obligations.WetnessSampleActsOnItsSurfaces : Prop :=
  ∀ (s : State) (q : FloorPort) (e : Envelope) (payload : List Byte) (c : SensorConfig) (w : Wet),
    s.Settled → s.hears (.floor q) = true → e.srcNode ≠ 0 →
    (s.desc (floorSelector q e.srcNode)).config = some c → readSample c payload = .reading (.wetness w) →
    let sel := floorSelector q e.srcNode
    let d := s.desc sel
    ∃ v, exec (.sample q e payload) s =
        .next (v.forward sel (wetnessPayload sel (v.desc sel) false) (.wetness (some w))) ∧
      s.OtherDescs v sel ∧
      v.desc sel =
        { d with phase := .live, age := 0, rejects := 0, lastWet := some w, accessed := true } ∧
      v.turn = s.rawTurn c q e payload ∧
      (s.raiseAll (recoveryEvents c sel d ++ s.gradeEvents v)).SameReports v ∧
      s.Changes v ([.sdt, .surfaces, .zones, .turn] ++ reportFields) ∧ s.ZonesKept v ∧
      (∀ i : Fin 64, (∀ k, (s.surface i).config = some k → k.wetness ≠ some sel) →
        v.surface i = s.surface i) ∧
      (w = .water → ∀ (i : Fin 64) (k : SurfaceConfig), (s.surface i).config = some k →
        k.wetness = some sel → v.surface i =
          { s.surface i with
            confirmed := true, grade := .wet, dwell := 0
            changes := if (s.surface i).grade = .wet then (s.surface i).changes
              else min ((s.surface i).changes + 1) 65535 }) ∧
      (w = .dry → ∀ (i : Fin 64) (k : SurfaceConfig), (s.surface i).config = some k →
        k.wetness = some sel → v.surface i = { s.surface i with confirmed := false })

/-! ### The engine -/

/-- The first law: in every bank that passes the commit check, a dew point lies in the range, and one computed
from an air sample never exceeds its temperature; the vapour pressure never exceeds saturation (R48, R50). -/
def Obligations.DewPointNeverExceedsTemperature : Prop :=
  ∀ b : Bank, (∀ i j : Fin 251, i < j → (b.get i).toNat < (b.get j).toNat) →
    (∀ x : Nat, -4000 ≤ (dewPoint b x).1 ∧ (dewPoint b x).1 ≤ 8500) ∧
    ∀ (t : Int) (rh : Nat), -4000 ≤ t → t ≤ 8500 → rh ≤ 10000 →
      vapour (saturation b t) rh ≤ saturation b t ∧ (dewPoint b (vapour (saturation b t) rh)).1 ≤ t

/-- The dew-point capture: the largest dew point of the LIVE AIR selectors associated, else the zone's where
fallback is enabled and the zone VALID, else BLIND (R51). -/
def Obligations.DewPointCaptureIsTheLargestLive : Prop :=
  ∀ (s : State) (q : SampleJob) (rest : List SampleJob) (t : Int) (i : Fin 64) (c : SurfaceConfig),
    (∀ z : Fin 32, s.zoneClose.get z = none) → s.evalQueue = q :: rest → q.reading = .surface t →
    (s.surface i).config = some c → c.probe = q.sel →
    (∀ (j : Fin 64) (d : SurfaceConfig), (s.surface j).config = some d → d.probe = q.sel → j = i) →
    let gives := fun (x : Selector) (td : Int) =>
      x.toNat % 64 ≠ 0 ∧ (∃ k a, (s.desc x).config = some k ∧ k.kind = .air ∧
        (s.desc x).phase = .live ∧ (s.desc x).lastAir = some a ∧ a.td = td)
    let takes := fun capture : Capture => s.takeJob = { s with
      evalQueue := rest
      job := some (.surface q.sel t q.clamped s.svt.gen q.version
        (some { surface := i, version := (s.surface i).version, capture := capture })) }
    (∀ x ∈ c.assoc, ∀ td, gives x td → (∀ y ∈ c.assoc, ∀ u, gives y u → u ≤ td) →
      takes (some (td, .air))) ∧
    ((∀ x ∈ c.assoc, ∀ td, ¬ gives x td) →
      (∀ e td, (s.zone c.zone).fallback = true → (s.zone c.zone).result = .valid e td →
        takes (some (td, .fallback))) ∧
      ((s.zone c.zone).fallback = false ∨ (s.zone c.zone).result = .none ∨
        (s.zone c.zone).result = .saturated → takes none))

/-- The engine's choice: the lowest-numbered waiting zone, else the head of the evaluation queue, else IDLE; the
generation and the version are captured, and a SURFACE job whose selector no in-use record names is unbound
(R41, R42). -/
def Obligations.EngineTakesZonesFirst : Prop :=
  ∀ s : State,
    (∀ (z : Fin 32) (snap : Snapshot), s.zoneClose.get z = some snap →
      (∀ y : Fin 32, y < z → s.zoneClose.get y = none) →
      s.takeJob = { s with job := some (.zone z snap s.svt.gen)
                           zoneClose := s.zoneClose.set z none }) ∧
    ((∀ z : Fin 32, s.zoneClose.get z = none) →
      (s.evalQueue = [] → s.takeJob = { s with job := none }) ∧
      (∀ q rest, s.evalQueue = q :: rest →
        (∀ t rh sat, q.reading = .air t rh sat → s.takeJob = { s with
          evalQueue := rest, job := some (.air q.sel t rh q.clamped sat s.svt.gen q.version) }) ∧
        (∀ t, q.reading = .surface t →
          (∀ (i : Fin 64) (k : SurfaceConfig), (s.surface i).config = some k → k.probe ≠ q.sel) →
          s.takeJob = { s with
            evalQueue := rest, job := some (.surface q.sel t q.clamped s.svt.gen q.version none) })))

/-- The forward decision at a completion or an accepted wetness sample: none in mode OFF or RAW, a frame in mode
ENRICHED, and in mode CHANGED a frame exactly when a condition of R167's row for the kind holds; the reference takes
what is offered, whether the queue of 32 places it or drops and counts it (R165, R166, R167). That a reference of
another kind counts as a change is the model's choice (log 30). -/
def Obligations.ForwardingFollowsTheMode : Prop :=
  ∀ (s : State) (sel : Selector) (payload : List Byte) (v : RefValue) (c : SensorConfig),
    (s.desc sel).config = some c →
    let d := s.desc sel
    let apart := fun a b : Option Int => (a.isSome ≠ b.isSome) ∨
      ∃ x y, a = some x ∧ b = some y ∧ (c.deadband ≤ x - y ∨ c.deadband ≤ y - x)
    let differs := fun old : RefValue => match old, v with
      | .air a, .air b => apart a b
      | .surfaceFull i g m, .surfaceFull j h n => i ≠ j ∨ g ≠ h ∨ apart m n
      | .surfaceDetached, .surfaceDetached => False
      | .wetness a, .wetness b => a ≠ b
      | _, _ => True
    let changed := ∀ r : ForwardRef, d.forwarded = some r → r.state ≠ d.state ∨ differs r.value
    let offered := s.offered sel payload v
    (c.mode = .off ∨ c.mode = .raw → s.forward sel payload v = s) ∧
    (c.mode = .enriched → s.forward sel payload v = offered) ∧
    (c.mode = .changed → (changed → s.forward sel payload v = offered) ∧
      (¬ changed → s.forward sel payload v = s))

/-- An AIR completion: discarded and counted on another version; otherwise e and Td from the captured table are stored
with the flags, the zone accumulates w × e unless it would overflow, and the frame with these values meets the forward
mode. Either way the engine then takes its next job (R20, R28, R41, R47 to R49, R54, R63, R64). -/
def Obligations.AirCompletionDeliversOrDiscards : Prop :=
  ∀ (s : State) (sel : Selector) (tc : Int) (rh : Nat) (cl sat : Bool) (gen ver : BitVec 8), s.Settled →
    s.job = some (.air sel tc rh cl sat gen ver) →
    let d := s.desc sel
    let b := if gen = s.svt.gen then s.svt.active else s.svt.shadow
    let e := (saturation b tc * rh + 5000) / 10000
    let td := (dewPoint b e).1
    (d.version ≠ ver → exec .airJobCompletion s = .next ({ s with counters :=
      { s.counters with versionDiscard := min (s.counters.versionDiscard + 1) 65535 } }.takeJob)) ∧
    (d.version = ver → ∃ v, exec .airJobCompletion s =
          .next (v.forward sel (airPayload sel (v.desc sel) false (some tc) (some rh) (some (e, td)))
            (.air (some td))).takeJob ∧
        s.OtherDescs v sel ∧
        v.desc sel =
          { d with
            accessed := true, unevaluated := false
            lastAir := some { e := e, td := td, gen := gen }
            belowTable := (dewPoint b e).2, clamped := cl, saturated := sat } ∧
        (d.config = none → v.zones = s.zones) ∧
        (∀ c : SensorConfig, d.config = some c →
          (∀ z : Fin 32, z ≠ c.zone → v.zone z = s.zone z) ∧
          (let r := s.zone c.zone
           let w := c.weight.val
           v.zone c.zone =
            if w = 0 ∨ r.overflow = true then r
            else if 4294967295 < r.swe + w * e ∨ 65535 < r.n + 1 then { r with overflow := true }
            else { r with swe := r.swe + w * e, sw := r.sw + w, n := r.n + 1 })) ∧
        s.Changes v [.sdt, .zones])

/-- A SURFACE completion: discarded on another descriptor version; delivered to the descriptor alone when unbound or
when the record's version moved; otherwise the record is graded with its threshold set, or goes BLIND without a usable
margin, with the GRADE event of a change. The detached or full frame then meets the forward mode, and the engine takes
its next job (R20, R41, R52, R55, R56, R85, R89, R96, R97). That the flags of a full frame are the descriptor's at the
offer is DEDUCED (log 22). That a record out of use, whose version a multiple of 256 WRITEs made equal again, is not
evaluated and gives a full frame without margin and Td_eff is the model's choice (log 30). -/
def Obligations.SurfaceCompletionGradesOrDiscards : Prop :=
  ∀ (s : State) (sel : Selector) (tc : Int) (cl : Bool) (gen ver : BitVec 8) (bind : Option Binding),
    s.Settled → s.job = some (.surface sel tc cl gen ver bind) →
    let d := s.desc sel
    let more := min (s.counters.versionDiscard + 1) 65535
    (d.version ≠ ver → exec .surfaceJobCompletion s = .next ({ s with counters :=
      { s.counters with versionDiscard := more } }.takeJob)) ∧
    (d.version = ver → ∃ v payload value,
      exec .surfaceJobCompletion s = .next (v.forward sel payload value).takeJob ∧
      s.OtherDescs v sel ∧ v.desc sel = { d with accessed := true, unevaluated := false } ∧
      s.Changes v ([.sdt, .surfaces, .zones] ++ reportFields) ∧ s.ZonesKept v ∧
      (bind = none ∨ (∃ b, bind = some b ∧ (s.surface b.surface).version ≠ b.version) →
        payload = detachedPayload sel (v.desc sel) false (some tc) ∧ value = .surfaceDetached ∧
        v.surfaces = s.surfaces ∧ v.slots = s.slots ∧ v.alarmLoss = s.alarmLoss ∧
        v.counters = if bind = none then s.counters
          else { s.counters with versionDiscard := more }) ∧
      (∀ b : Binding, bind = some b → (s.surface b.surface).version = b.version →
        (s.surface b.surface).config = none →
        payload =
          surfacePayload sel (v.desc sel) b.surface tc none none (s.surface b.surface).grade ∧
        value = .surfaceFull b.surface (s.surface b.surface).grade none ∧ s.Changes v [.sdt]) ∧
      (∀ (b : Binding) (k : SurfaceConfig), bind = some b →
        (s.surface b.surface).version = b.version → (s.surface b.surface).config = some k →
        let r := s.surface b.surface
        let usable := (s.desc k.probe).state = .live
        let capture := if usable then b.capture else none
        let m := capture.map fun x => tc - x.1
        payload = surfacePayload sel (v.desc sel) b.surface tc capture m (v.surface b.surface).grade ∧
        value = .surfaceFull b.surface (v.surface b.surface).grade m ∧
        (s.raiseAll (s.gradeEvents v)).SameReports v ∧ s.OtherSurfaces v b.surface ∧
        (∀ td src, b.capture = some (td, src) → usable →
          let g := gradeStep (s.thr.get k.thr) r (tc - td)
          v.surface b.surface =
            { r with
              grade := g.1, dwell := g.2, margin := some (tc - td), source := some src
              changes := if g.1 = r.grade then r.changes else min (r.changes + 1) 65535 }) ∧
        (b.capture = none ∨ ¬ usable → v.surface b.surface =
          { r with
            grade := if r.confirmed then r.grade else .blind
            dwell := 0, margin := none, source := none
            changes := if r.confirmed = true ∨ r.grade = .blind then r.changes
              else min (r.changes + 1) 65535 })))

/-- A ZONE completion sets the zone's result VALID with the mean rounded half up and its dew point in the
captured table, and raises the ZONE event where enabled; then the engine takes its next job (R41, R49, R53, R57, R69,
R73). -/
def Obligations.ZoneCompletionSetsValid : Prop :=
  ∀ (s : State) (z : Fin 32) (p : Snapshot) (gen : BitVec 8), s.Settled →
    s.job = some (.zone z p gen) →
    let b := if gen = s.svt.gen then s.svt.active else s.svt.shadow
    let e := (2 * p.swe + p.sw) / (2 * p.sw)
    let td := (dewPoint b e).1
    ∃ v, exec .zoneJobCompletion s = .next v.takeJob ∧
      v.zone z = { s.zone z with result := .valid e td } ∧
      (∀ y : Fin 32, y ≠ z → v.zone y = s.zone y) ∧
      (s.raiseAll (if (s.zone z).summary then
        [.zone z (.valid e td) (s.zone z).closed (s.zone z).worst] else [])).SameReports v ∧
      s.Changes v ([.zones] ++ reportFields)

/-- Grades: raw and candidate from the thresholds, the candidate never better than the raw grade and the raised
thresholds in order; the first grade out of BLIND, the rise at once, no fall under CONFIRMED, the fall after D better
candidates (R83, R84, R86, R87, R88). -/
def Obligations.GradesRiseAtOnceAndFallByDwell : Prop :=
  ∀ (t : ThrSet) (r : Surface) (m : Int),
    let grade := fun h : Int =>
      if t.watch + h ≤ m then Grade.clear
      else if t.alert + h ≤ m then .watch
      else if t.wet + h ≤ m then .alert
      else .wet
    let place := fun g : Grade => match g with
      | .clear => 1 | .watch => 2 | .alert => 3 | .wet => 4 | .blind => 0
    let raw := grade 0
    let cand := grade t.hyst
    (rawGrade t m = raw ∧ candidateGrade t m = cand ∧ place raw ≤ place cand) ∧
    (t.Ordered → t.alert + t.hyst < t.watch + t.hyst ∧ t.wet + t.hyst < t.alert + t.hyst ∧
      -1000 ≤ t.wet + t.hyst ∧ t.watch + t.hyst ≤ 2200) ∧
    (r.grade = .blind → gradeStep t r m = (raw, 0)) ∧
    (r.grade ≠ .blind → place r.grade < place raw → gradeStep t r m = (raw, 0)) ∧
    (r.grade ≠ .blind → place raw ≤ place r.grade → r.confirmed = true →
      gradeStep t r m = (r.grade, 0)) ∧
    (r.grade ≠ .blind → place raw ≤ place r.grade → r.confirmed = false →
      (place r.grade ≤ place cand → gradeStep t r m = (r.grade, 0)) ∧
      (place cand < place r.grade → r.dwell + 1 < t.dwell →
        gradeStep t r m = (r.grade, r.dwell + 1)) ∧
      (place cand < place r.grade → t.dwell ≤ r.dwell + 1 → gradeStep t r m = (cand, 0)))

/-- The commit check: a passing shadow becomes the active bank under a new generation with an OK reply; a
failing one changes nothing and the reply names the first offending index (R33, R34). -/
def Obligations.CommitCheckSwapsOrReports : Prop :=
  ∀ (s : State) (q : Request), s.Settled → s.mgmt = .committing q → q.port = .u →
    let E := fun i : Fin 251 => (s.svt.shadow.get i).toNat
    let reply := fun (status index : Byte) (gen : BitVec 8) =>
      ({ env := { dstUnit := 0, dstScope := .unit, dstNode := 0, srcUnit := s.unitNo,
                  srcScope := .unit, srcNode := 0, rpl := 0, tag := q.tag },
         kind := 7,
         payload := [q.payload.getD 0 0, status, index, q.payload.getD 3 0, gen] } : Frame)
    (1 ≤ E 0 → (∀ i j : Fin 251, j.val = i.val + 1 → E i < E j) →
      exec .commitCheckCompletion s = .next { s with
        svt := { active := s.svt.shadow, shadow := s.svt.active, shadowState := .previous,
                 gen := s.svt.gen + 1 }
        mgmt := .idle
        turn := s.turn.handed (reply 0 (q.payload.getD 2 0) (s.svt.gen + 1)) .mgmt }) ∧
    (E 0 = 0 → exec .commitCheckCompletion s = .next { s with
        mgmt := .idle, turn := s.turn.handed (reply 7 0 s.svt.gen) .mgmt }) ∧
    (1 ≤ E 0 → ∀ i j : Fin 251, j.val = i.val + 1 → E j ≤ E i →
      (∀ k l : Fin 251, l.val = k.val + 1 → k < i → E k < E l) →
      exec .commitCheckCompletion s = .next { s with
        mgmt := .idle
        turn := s.turn.handed (reply 7 (BitVec.ofNat 8 j.val) s.svt.gen) .mgmt })

/-- Serving ends: the engine is IDLE and the reply goes to the reply list of U, or to the floor port's
transmitter or hold, or is dropped and counted on a DOWN port (R149, R150, R156, R157, R172, R177). -/
def Obligations.ServiceCompletionHandsTheReplyOver : Prop :=
  ∀ (s : State) (q : Request) (f : Frame), s.Settled → s.mgmt = .serving q f →
    let s1 := s.setMgmt .idle
    let r := s.port q.port
    (q.port = .u → exec .serviceCompletion s = .next (s1.setTurn (s.turn.handed f .mgmt))) ∧
    (q.port ≠ .u → r.rx ≠ .down → r.tx = .idle →
      exec .serviceCompletion s =
        .next (s1.setPort q.port { r with hold := none, tx := .sending f true })) ∧
    (q.port ≠ .u → r.rx ≠ .down → r.tx ≠ .idle →
      exec .serviceCompletion s = .next (s1.setPort q.port { r with hold := some f })) ∧
    (q.port ≠ .u → r.rx = .down →
      exec .serviceCompletion s = .next (s1.setPort q.port
        { r with
          owed := false
          count := { r.count with replyDropped := min (r.count.replyDropped + 1) 65535 } }))

/-- A RESTART takes effect: every table and setting is kept, every block's live state and counters are at their restart
values, CONDENSE is released, and the WARM START event is placed, then a LINK_LOST event for every dark port (R22, R25,
R37, R60, R76, R100, R118, R137, R154, R171, R188, R192). That a VACANT descriptor takes the same values, and that a
character held undecided is discarded without a count while any other under way goes on, are the model's choices (log
26, log 27). -/
def Obligations.RestartKeepsTablesAndClearsLiveState : Prop :=
  ∀ s : State, s.power = .running → s.due.restart = true →
    let cleared := fun r : Slot =>
      { r with
        state := if r.state = .idle then SlotState.idle else .empty
        entries := [], lost := false, failed := false, sent := 0 }
    let events := Event.start s.unitNo true s.svt.gen s.tablesEmpty ::
      floorPorts.filterMap fun q =>
        if (s.port (.floor q)).rx = .down then some (.link (floorIdx q).castSucc .lost) else none
    ∃ t b : State, exec .restartTakesEffect s = .next t ∧
      s.Changes t ([.ports, .sdt, .evalQueue, .zoneClose, .job, .zones, .epochCount, .surfaces, .turn,
        .mgmt, .due] ++ reportFields) ∧
      (∀ sel : Selector, t.desc sel =
        { config := (s.desc sel).config, phase := .awaiting, age := 0, rejects := 0, lastT := none,
          lastRh := none, lastAir := none, lastWet := none, clamped := false, saturated := false,
          belowTable := false, unevaluated := false, accessed := false,
          version := (s.desc sel).version, forwarded := none, formatRejects := 0,
          plausibilityRejects := 0 }) ∧
      (∀ i : Fin 64, t.surface i =
        { config := (s.surface i).config, grade := .blind, confirmed := false, source := none,
          margin := none, dwell := 0, changes := 0, version := (s.surface i).version }) ∧
      (∀ z : Fin 32, t.zone z =
        { summary := (s.zone z).summary, fallback := (s.zone z).fallback, swe := 0, sw := 0, n := 0,
          overflow := false, result := .none, closed := 0, overrun := false,
          worst := (t.zone z).worst }) ∧
      (∀ (z : Fin 32) (i : Fin 64), s.InZone z i → (∀ j : Fin 64, j < i → ¬ s.InZone z j) →
        (t.zone z).worst = some (.blind, i)) ∧
      (∀ z : Fin 32, (∀ i : Fin 64, ¬ s.InZone z i) → (t.zone z).worst = none) ∧
      (∀ i : Fin 16, b.slot i = cleared (s.slot i)) ∧ b.alarmLoss = false ∧
      b.counters =
        { unknownSource := 0, coalesced := 0, eqOverflow := 0, versionDiscard := 0, reportLoss := 0 } ∧
      (b.raiseAll events).SameReports t ∧
      (t.evalQueue = [] ∧ t.job = none ∧ t.epochCount = 0 ∧ t.mgmt = .idle ∧
        t.alarmLoss = false ∧ t.condense = false ∧ t.due = { silence := false, restart := false } ∧
        t.turn = State.reset.turn ∧ ∀ z : Fin 32, t.zoneClose.get z = none) ∧
      ∀ p : Port, t.port p =
        { s.port p with
          rx := if (s.port p).rx = .down then .down else .hunting
          partWay := (s.port p).partWay && (s.port p).held.isNone
          held := none, buffer := none
          tx := (match (s.port p).tx with
            | .idle => .idle
            | .sending f _ => .sending f false)
          count := LineCounters.zero, router := RouterCounters.zero
          downward := [], hold := none, owed := false, settingsReply := false }

/-! ### Reports -/

/-- Placement of an event: supersede in place, else the lowest slot that can take it, else a counted loss
that sets the latch for a GRADE event entering ALERT or WET (R104, R105, R106, R108). -/
def Obligations.EventsSupersedeOrPlaceOrAreLost : Prop :=
  ∀ (s : State) (e : Event),
    let accepts := fun i : Fin 16 => (s.slot i).state ≠ .idle ∧
      (s.slot i).binding.kinds.getLsbD e.kindBit = true ∧
      e.id &&& (s.slot i).binding.idMask = (s.slot i).binding.idMatch
    let holds := fun i : Fin 16 => (s.slot i).Unsent ∧ ∃ x ∈ (s.slot i).entries, e.SameSubject x
    let takes := fun i : Fin 16 => (s.slot i).state = .empty ∨
      ((s.slot i).state = .collecting ∧ (s.slot i).entries.length < 7)
    (∀ i : Fin 16, accepts i → holds i → (∀ j : Fin 16, j < i → ¬ (accepts j ∧ holds j)) →
      ∃ es : List Event, s.raise e = s.setSlot i { s.slot i with entries := es, lost := true } ∧
        es.length = (s.slot i).entries.length ∧
        ∀ k : Nat, es[k]? = ((s.slot i).entries[k]?).map fun x =>
          if e.kindBit = x.kindBit ∧ e.id = x.id then e else x) ∧
    ((∀ j : Fin 16, ¬ (accepts j ∧ holds j)) →
      (∀ i : Fin 16, accepts i → takes i → (∀ j : Fin 16, j < i → ¬ (accepts j ∧ takes j)) →
        s.raise e = s.setSlot i
          { s.slot i with
            entries := if (s.slot i).state = .empty then [e] else (s.slot i).entries ++ [e]
            state :=
              if (s.slot i).state = .empty then
                (if (s.slot i).binding.mode = .single then .pending else .collecting)
              else if (s.slot i).entries.length = 6 then .pending else .collecting }) ∧
      ((∀ j : Fin 16, ¬ (accepts j ∧ takes j)) →
        (s.raise e).slots = s.slots ∧
        (s.raise e).counters =
          { s.counters with reportLoss := min (s.counters.reportLoss + 1) 65535 } ∧
        ((s.raise e).alarmLoss = true ↔ s.alarmLoss = true ∨
          ∃ i left entered m conf fb, e = .grade i left entered m conf fb ∧
            (entered = .alert ∨ entered = .wet)) ∧
        s.Changes (s.raise e) reportFields))

/-! ### The uplink -/

/-- A frame opportunity (R159, R160): the RELEASE with the state as it stands when the budget is spent or nothing is
left, else the head of the reply list, the lowest PENDING slot, the head of the forward queue, the last two exchanged
by the starvation guard. -/
def Obligations.FrameOpportunityChoosesTheSource : Prop :=
  ∀ s : State,
    let t := s.turn
    let release : Frame :=
      { env := { dstUnit := 0, dstScope := .unit, dstNode := 0, srcUnit := s.unitNo, srcScope := .unit,
                 srcNode := 0, rpl := 0, tag := t.tag },
        kind := 9,
        payload := [BitVec.ofNat 8 s.pendingSlots, BitVec.ofNat 8 t.fq.length,
          (if t.silenceSeen then 1 else 0) + (if s.alarmLoss then 2 else 0)
            + (if s.condense then 4 else 0)] }
    (t.budget ≤ t.sent ∨ (t.replies = [] ∧ (∀ i : Fin 16, (s.slot i).state ≠ .pending) ∧ t.fq = []) →
      s.frameOpportunity = s.setTurn
        { t with withU := some { frame := release, source := .release t.silenceSeen } }) ∧
    (t.sent < t.budget →
      (∀ r rest, t.replies = r :: rest → s.frameOpportunity = s.setTurn
        { t with replies := rest, sent := t.sent + 1, run := 0,
                 withU := some { frame := r.frame, source := .reply r.source } }) ∧
      (t.replies = [] → t.fq = [] ∨ t.run < 4 → ∀ i : Fin 16, (s.slot i).state = .pending →
        (∀ j : Fin 16, j < i → (s.slot j).state ≠ .pending) → s.frameOpportunity =
          (s.setSlot i { s.slot i with state := .sending }).setTurn
            { t with sent := t.sent + 1, run := t.run + 1,
                     withU := some { frame := s.reportFrame i 0, source := .slot i } }) ∧
      (t.replies = [] → (∀ i : Fin 16, (s.slot i).state ≠ .pending) ∨ 4 ≤ t.run →
        ∀ f rest, t.fq = f :: rest → s.frameOpportunity = s.setTurn
          { t with fq := rest, sent := t.sent + 1, run := 0,
                   withU := some { frame := f, source := .forward } }))

/-- A GRANT begins a turn: budget clamped to 16, counters 0, its tag; a set SILENT ends with its event and the CONDENSE
line. A frame that waits for U is the turn's first when the budget is 1 or more; a RELEASE is withdrawn, and with budget
0 any other frame returns to its source; when none is carried the first frame opportunity arises at once (R158). That a
forward frame returns to a full queue, whose newest frame is then dropped and counted, is the model's choice (log 12).
An empty payload is a budget of 0 (R194). -/
def Obligations.GrantBeginsATurn : Prop :=
  ∀ (s : State) (e : Envelope) (payload : List Byte), s.Settled → s.hears .u = true →
    e.srcUnit = 0 → e.dstUnit = s.unitNo → e.dstScope = .unit →
    let budget := match payload with
      | [] => 0
      | b :: _ => min 16 b.toNat
    (∃ t, exec (.grant e payload) s = .next t ∧ t.turn.state = .turn ∧ t.turn.budget = budget ∧
      t.turn.silence = 0 ∧ t.turn.silent = false ∧ t.turn.tag = e.tag ∧
      t.turn.withU ≠ none ∧ t.turn.sent ≤ 1 ∧ t.turn.silenceSeen = s.turn.silenceSeen ∧
      (s.CondenseFollows → t.CondenseFollows) ∧ s.Changes t ([.turn] ++ reportFields)) ∧
    ∃ u : State, u.turn = { s.turn with silence := 0, silent := false } ∧
      s.Changes u ([.turn] ++ reportFields) ∧
      (s.turn.silent = false → u = s.setTurn u.turn) ∧
      (s.turn.silent = true → (s.raise (.link 4 .silenceEnd)).SameReports u ∧ u.CondenseFollows) ∧
      let base := { u.turn with
        state := .turn, budget := budget, sent := 0, run := 0, tag := e.tag }
      (s.turn.withU = none ∨ (∃ f seen, s.turn.withU = some { frame := f, source := .release seen }) →
        exec (.grant e payload) s = .next (u.setTurn { base with withU := none }).frameOpportunity) ∧
      (∀ c : Committed, s.turn.withU = some c → (∀ seen, c.source ≠ .release seen) → 1 ≤ budget →
        exec (.grant e payload) s = .next (u.setTurn { base with
          sent := 1
          run := (match c.source with
            | .slot _ => 1
            | _ => 0) })) ∧
      (∀ f src, s.turn.withU = some { frame := f, source := .reply src } → budget = 0 →
        exec (.grant e payload) s = .next (u.setTurn { base with
          withU := none
          replies := { frame := f, source := src } :: s.turn.replies }).frameOpportunity) ∧
      (∀ f, s.turn.withU = some { frame := f, source := .forward } → budget = 0 →
        (s.turn.fq.length < 32 → exec (.grant e payload) s = .next (u.setTurn { base with
          withU := none, fq := f :: s.turn.fq }).frameOpportunity) ∧
        (32 ≤ s.turn.fq.length → exec (.grant e payload) s = .next (u.setTurn { base with
          withU := none, fq := f :: s.turn.fq.take 31
          forwardDrop := min (s.turn.forwardDrop + 1) 65535 }).frameOpportunity)) ∧
      (∀ f i, s.turn.withU = some { frame := f, source := .slot i } → budget = 0 →
        exec (.grant e payload) s =
          .next ((u.setTurn { base with withU := none }).slotRetry i).frameOpportunity)

/-- U begins the frame it holds at a frame boundary and at no other moment (R131). A frame reported sent is counted and
its source settled: a management reply ends what was owed, a slot becomes EMPTY, a RELEASE ends the turn and the
silence-seen flag it carried, the RESTART is due. In a turn the next frame opportunity follows; outside one, LISTEN or
the next reply (R112, R131, R157, R160, R161, R185). That a character's start on U is an event of its own is the model's
choice (log 3); that U_TRANSMIT_START at another moment changes nothing is too (log 2), and so is that the sender times
it, at the first moment R131 allows or later (log 31). -/
def Obligations.UTransmitsAndSettlesItsSource : Prop :=
  ∀ s : State, s.Settled →
    (∀ c : Committed, s.turn.withU = some c → (s.port .u).rx = .hunting → (s.port .u).partWay = false →
      (s.port .u).held = none → (s.port .u).tx = .idle → exec .uTransmitStart s =
        .next (s.setPort .u { s.port .u with tx := .sending c.frame false })) ∧
    (s.turn.withU = none ∨ (s.port .u).rx ≠ .hunting ∨ (s.port .u).partWay = true ∨
        (s.port .u).held ≠ none ∨ (s.port .u).tx ≠ .idle → exec .uTransmitStart s = .next s) ∧
    ∀ (f : Frame) (c : Committed), (s.port .u).tx = .sending f false → s.turn.withU = some c →
    let u := { s.port .u with
      tx := .idle, rx := .hunting, partWay := false, rxTurned := false, held := none
      count := { (s.port .u).count with framesSent := min ((s.port .u).count.framesSent + 1) 65535 } }
    let ended := { u with owed := false, settingsReply := false }
    let emptied := fun i : Fin 16 =>
      { s.slot i with
        state := .empty, entries := [], lost := false, failed := false
        sent := min ((s.slot i).sent + 1) 65535 }
    let goesOn := fun s1 : State =>
      (s.turn.state ≠ .turn → exec .uFrameSent s = .next (s1.setTurn s.turn.released)) ∧
      (s.turn.state = .turn → exec .uFrameSent s =
        .next (s1.setTurn { s.turn with withU := none }).frameOpportunity)
    (c.source = .reply .mgmt → goesOn (s.setPort .u ended)) ∧
    (c.source = .reply .pollStatus → goesOn (s.setPort .u u)) ∧
    (∀ i, c.source = .reply (.pollReport i) ∨ c.source = .slot i →
      goesOn ((s.setPort .u u).setSlot i (emptied i))) ∧
    (c.source = .forward → goesOn (s.setPort .u u)) ∧
    (∀ seen, c.source = .release seen → exec .uFrameSent s = .next ((s.setPort .u u).setTurn
      ({ s.turn with silenceSeen := s.turn.silenceSeen && !seen } : Turn).released)) ∧
    (c.source = .reply .restart → exec .uFrameSent s =
      .next (((s.setPort .u ended).setTurn { s.turn with withU := none }).setDue
        { s.due with restart := true }))

/-- A collision: the echo check fails on a character U has sent, read back from the line with other data, an error, or
not at all; the frame is lost, the turn or REPLYING ends, the collision is counted, the source is settled by its kind,
and a reply that waits is served (R131, R157, R162). A single-shot slot is emptied with FAILED; another keeps the
entries whose subjects no other slot holds unsent, with LOST if one is removed, and is EMPTY with LOST if none is left
(R113, R114). -/
def Obligations.CollisionEndsTheTurn : Prop :=
  ∀ (s : State) (f : Frame) (c : Committed) (pos : Nat) (sent : Byte) (back : LineChar),
    s.Settled → (s.port .u).tx = .sending f false → s.turn.withU = some c →
    (encodeFrame f)[pos]? = some sent →
    (∀ x, readLine .u (s.port .u).inForce back = some x → x.data ≠ sent ∨ x.stopBit = false ∨
      parityError (s.port .u).inForce.parity x = true) →
    let replyLost := c.source = .reply .mgmt ∨ c.source = .reply .restart
    let ended : Turn :=
      { s.turn with
        state := .listen, withU := none, collisions := min (s.turn.collisions + 1) 65535
        forwardDrop :=
          if c.source = .forward then min (s.turn.forwardDrop + 1) 65535 else s.turn.forwardDrop }
    ∃ t, exec (.collision pos back) s = .next t ∧
      (c.source = .reply .restart ∨ s.turn.replies = [] → t.turn = ended) ∧
      (c.source ≠ .reply .restart → ∀ r rest, s.turn.replies = r :: rest → t.turn =
        { ended with
          state := .replying, replies := rest
          withU := some { frame := r.frame, source := .reply r.source } }) ∧
      t.port .u =
        { s.port .u with
          tx := .idle, rx := .hunting, partWay := false, rxTurned := false, held := none
          owed := (s.port .u).owed && !decide replyLost
          settingsReply := (s.port .u).settingsReply && !decide replyLost } ∧
      s.OtherPorts t .u ∧ s.Changes t [.ports, .slots, .turn, .due] ∧
      t.due = { s.due with restart := decide (c.source = .reply .restart) } ∧
      ((∀ i, c.source ≠ .slot i ∧ c.source ≠ .reply (.pollReport i)) → t.slots = s.slots) ∧
      (∀ i, c.source = .slot i ∨ c.source = .reply (.pollReport i) →
        let r := s.slot i
        let kept := r.entries.filter fun a => !s.heldElsewhere i a
        (∀ a : Event, s.heldElsewhere i a = true ↔
          ∃ j : Fin 16, j ≠ i ∧ (s.slot j).Unsent ∧ ∃ x ∈ (s.slot j).entries, a.SameSubject x) ∧
        (∀ j : Fin 16, j ≠ i → t.slot j = s.slot j) ∧
        (r.binding.singleShot = true → t.slot i =
          { r with state := .empty, entries := [], failed := true }) ∧
        (r.binding.singleShot = false → kept = [] → t.slot i =
          { r with state := .empty, entries := [], lost := true }) ∧
        (r.binding.singleShot = false → kept ≠ [] → t.slot i =
          { r with state := .pending, entries := kept
                   lost := r.lost || decide (kept.length < r.entries.length) }))

/-- The answer to a POLL by the named slot (R115, R194): its REPORT, or a status with the POLL's tag. A POLL has no
command, index or count to echo, and a status reply carries 0 there: DEDUCED from R193 and R177 (log 8). -/
def Obligations.PollIsAnsweredByTheSlot : Prop :=
  ∀ (s : State) (e : Envelope) (payload : List Byte), s.Settled → s.hears .u = true →
    e.srcUnit = 0 → e.dstUnit = s.unitNo →
    let status := fun (st : Byte) => exec (.poll e payload) s =
      .next (s.setTurn (s.turn.handed
        { env := { dstUnit := 0, dstScope := .unit, dstNode := 0, srcUnit := s.unitNo,
                   srcScope := .unit, srcNode := 0, rpl := 0, tag := e.tag },
          kind := 7, payload := [0, st, 0, 0] } .pollStatus))
    (payload = [] → status 4) ∧
    (∀ n rest, payload = n :: rest → 16 ≤ n.toNat → status 4) ∧
    (∀ n rest, payload = n :: rest → ∀ i : Fin 16, n.toNat = i.val →
      ((s.slot i).state = .empty ∨ (s.slot i).state = .idle → status 9) ∧
      ((s.slot i).state = .sending → status 1) ∧
      ((s.slot i).Unsent → (s.slot i).binding.inhibit = true → status 10) ∧
      ((s.slot i).Unsent → (s.slot i).binding.inhibit = false → exec (.poll e payload) s =
        .next ((s.setSlot i { s.slot i with state := .sending }).setTurn
          (s.turn.handed (s.reportFrame i e.tag) (.pollReport i)))))

/-! ### Requests -/

/-- The six QUERY rows: the subject's record, captured at the take, with the lengths of 12.5; data is answered
MALFORMED, an index outside the subject BAD_INDEX (R23, R74, R98, R116, R135, R183). That the PORT record of U reads 0
in the fields that do not apply to U is DEDUCED (log 13). -/
def Obligations.QueriesReturnTheRecord : Prop :=
  ∀ (s : State) (p : Port) (r : MgmtOperand), s.Admits p r.env →
    let s1 := s.asked p r.commission
    let ok := fun (i : Instr) (table : Byte) (data : List Byte) =>
      exec i s = .next (s.answered p r 6 table r.index 0 r.index 1 data)
    let refused := fun (i : Instr) (table st : Byte) =>
      exec i s = .next (s.answered p r 6 table r.index st r.index r.count [])
    (r.data = [] →
      (r.index.toNat % 64 ≠ 0 → ok (.querySensor p r) 1 (sensorRecord (s.desc r.index)) ∧
        (sensorRecord (s.desc r.index)).length = 28) ∧
      (r.index.toNat % 64 = 0 → refused (.querySensor p r) 1 4) ∧
      (∀ i : Fin 64, r.index.toNat = i.val → ok (.querySurface p r) 2 (surfaceRecord (s.surface i)) ∧
        (surfaceRecord (s.surface i)).length = 9) ∧
      (64 ≤ r.index.toNat → refused (.querySurface p r) 2 4) ∧
      (∀ z : Fin 32, r.index.toNat = z.val →
        ok (.queryZone p r) 3 (zoneRecord (s.zone z) (s.zoneClose.get z).isSome s.epochCount) ∧
        (zoneRecord (s.zone z) (s.zoneClose.get z).isSome s.epochCount).length = 22) ∧
      (32 ≤ r.index.toNat → refused (.queryZone p r) 3 4) ∧
      (∀ i : Fin 16, r.index.toNat = i.val → ok (.querySlot p r) 4 (slotRecord (s.slot i)) ∧
        (slotRecord (s.slot i)).length = 5 + 2 * (s.slot i).entries.length) ∧
      (16 ≤ r.index.toNat → refused (.querySlot p r) 4 4) ∧
      (∀ k : Fin 5, r.index.toNat = k.val →
        ok (.queryPort p r) 5 (portRecord (portOfIdx k) (s1.port (portOfIdx k))) ∧
        (portRecord (portOfIdx k) (s1.port (portOfIdx k))).length = 34) ∧
      (5 ≤ r.index.toNat → refused (.queryPort p r) 5 4) ∧
      (ok (.queryUnit p r) 6 s1.unitRecord ∧ s1.unitRecord.length = 26)) ∧
    (r.data ≠ [] → refused (.querySensor p r) 1 8 ∧ refused (.querySurface p r) 2 8 ∧
      refused (.queryZone p r) 3 8 ∧ refused (.querySlot p r) 4 8 ∧ refused (.queryPort p r) 5 8 ∧
      refused (.queryUnit p r) 6 8)

/-- READ: consecutive entries in read form, the count clamped to the most per reply, to the end of the table
and to the next null selector; data is MALFORMED, an unknown table BAD_TABLE, an index outside BAD_INDEX
(R174, R179). -/
def Obligations.ReadReturnsClampedEntries : Prop :=
  ∀ (s : State) (p : Port) (code : Byte) (r : MgmtOperand), s.Admits p r.env →
    let i := r.index.toNat
    let refused := fun st : Byte =>
      exec (.read p code r) s = .next (s.answered p r 1 code r.index st r.index r.count [])
    (code = 0 ∨ 8 < code.toNat → refused 3) ∧
    (1 ≤ code.toNat → code.toNat ≤ 8 → r.data ≠ [] → refused 8) ∧
    (r.data = [] → ∀ (t : Table) (size most rest : Nat),
      (t, size, most, rest) ∈ [(Table.sdt, 256, 2, 64 - i % 64), (.svtActive, 251, 14, 251 - i),
        (.svtShadow, 251, 14, 251 - i), (.sft, 64, 4, 64 - i), (.thr, 8, 5, 8 - i),
        (.zone, 32, 32, 32 - i), (.slot, 16, 11, 16 - i), (.config, 3, 3, 3 - i)] →
      Table.ofCode code.toNat = some t →
      (size ≤ i ∨ (t = .sdt ∧ i % 64 = 0) → refused 4) ∧
      (i < size → ¬ (t = .sdt ∧ i % 64 = 0) →
        let n := min r.count.toNat (min most rest)
        exec (.read p code r) s = .next (s.answered p r 1 code r.index 0 r.index (BitVec.ofNat 8 n)
          ((List.range n).flatMap fun k => s.readForm t (i + k)))))

/-- The six CLEAR rows at their levels: with data each is MALFORMED; without, it clears its target everywhere and
nothing else, and is answered OK with index and count echoed (R21, R74, R98, R108, R116, R184). -/
def Obligations.ClearsActOnEveryInstance : Prop :=
  ∀ (s : State) (r : MgmtOperand), s.Admits .u r.env → r.env.rpl.toNat ≤ 2 →
    let s1 := s.asked .u r.commission
    let ok := fun (t : State) (table : Byte) => t.mgmt =
      .serving (requestRecord .u r.env r.commission (requestPayload 7 table r.index r))
        (replyTo s.unitNo .u r.env 7 0 r.index r.count [])
    let refused := fun (i : Instr) (table : Byte) =>
      exec i s = .next (s.answered .u r 7 table r.index 8 r.index r.count [])
    (r.data ≠ [] → refused (.clearCounters .u r) 1 ∧ refused (.clearAccessed .u r) 2 ∧
      refused (.clearSlotFlags .u r) 3 ∧ refused (.clearSurfaceCounts .u r) 4 ∧
      refused (.clearZoneFlags .u r) 5 ∧ (r.env.rpl.toNat ≤ 1 → refused (.clearAlarm .u r) 6)) ∧
    (r.data = [] →
    (∃ t, exec (.clearCounters .u r) s = .next t ∧ ok t 1 ∧
      (∀ sel, t.desc sel = { s.desc sel with formatRejects := 0, plausibilityRejects := 0 }) ∧
      t.counters =
        { unknownSource := 0, coalesced := 0, eqOverflow := 0, versionDiscard := 0, reportLoss := 0 } ∧
      (∀ p, t.port p = { s1.port p with count := LineCounters.zero, router := RouterCounters.zero }) ∧
      (∀ i, t.slot i = { s.slot i with sent := 0 }) ∧
      t.turn = { s.turn with collisions := 0, requestOverrun := 0, forwardDrop := 0 } ∧
      s1.Changes t [.sdt, .counters, .ports, .slots, .turn, .mgmt]) ∧
    (∃ t, exec (.clearAccessed .u r) s = .next t ∧ ok t 2 ∧
      (∀ sel, t.desc sel = { s.desc sel with accessed := false }) ∧ s1.Changes t [.sdt, .mgmt]) ∧
    (∃ t, exec (.clearSlotFlags .u r) s = .next t ∧ ok t 3 ∧
      (∀ i, t.slot i = { s.slot i with lost := false, failed := false }) ∧
      s1.Changes t [.slots, .mgmt]) ∧
    (∃ t, exec (.clearSurfaceCounts .u r) s = .next t ∧ ok t 4 ∧
      (∀ i, t.surface i = { s.surface i with changes := 0 }) ∧ s1.Changes t [.surfaces, .mgmt]) ∧
    (∃ t, exec (.clearZoneFlags .u r) s = .next t ∧ ok t 5 ∧
      (∀ z, t.zone z = { s.zone z with overrun := false }) ∧ s1.Changes t [.zones, .mgmt]) ∧
    (r.env.rpl.toNat ≤ 1 → ∃ t, exec (.clearAlarm .u r) s = .next t ∧ ok t 6 ∧ t.alarmLoss = false ∧
      t.CondenseFollows ∧ s1.Changes t [.alarmLoss, .condense, .mgmt]))

/-- The WRITE and EXCHANGE rows at a sufficient level: MALFORMED for a count other than 1 or a length other than the
write form's, then BAD_INDEX for an index outside the table or a null selector; a refusal changes nothing else (R174,
R179, R180, R181). -/
def Obligations.WritesAreCheckedForCountLengthAndIndex : Prop :=
  ∀ (s : State) (p : Port) (r : MgmtOperand), s.Admits p r.env →
    ∀ (i : Instr) (table : Byte) (level size limit : Nat),
      (i, table, level, size, limit) ∈ ([(.writeSdt p r, 1, 0, 16, 256), (.writeSft p r, 4, 1, 10, 64),
        (.exchangeSft p r, 4, 1, 10, 64), (.writeThr p r, 5, 1, 8, 8), (.exchangeThr p r, 5, 1, 8, 8),
        (.writeZone p r, 6, 1, 1, 32), (.writeSlot p r, 7, 1, 4, 16), (.writeEpochLength p r, 8, 0, 2, 3),
        (.writeSilenceLimit p r, 8, 0, 1, 3), (.writeLineSettings p r, 8, 0, 5, 3)] :
          List (Instr × Byte × Nat × Nat × Nat)) →
      (requestRecord p r.env r.commission []).level ≤ level →
      let k := rowIndex i r
      let refused := fun st : Byte =>
        exec i s = .next (s.answered p r (commandCode i) table k st k r.count [])
      (r.count ≠ 1 ∨ r.data.length ≠ size → refused 8) ∧
      (r.count = 1 → r.data.length = size →
        limit ≤ k.toNat ∨ (table = 1 ∧ k.toNat % 64 = 0) → refused 4)

/-- WRITE_SDT at level 0: an entry that passes R4 restarts the descriptor under the next version and purges its
waiting job, without a SENSOR event; the notice of the kind it held takes its surface to BLIND unless CONFIRMED, with
the GRADE event if enabled, or clears CONFIRMED; an entry that fails is BAD_VALUE and changes nothing (R4, R5, R17, R18,
R44, R93, R94, R96, R97). That a reserved bit of a not-present entry fails is DEDUCED (log 14). -/
def Obligations.WriteSdtRestartsTheDescriptor : Prop :=
  ∀ (s : State) (p : Port) (r : MgmtOperand), s.Admits p r.env → r.MayChange p 0 → r.count = 1 →
    r.data.length = 16 → r.index.toNat % 64 ≠ 0 →
    let d := s.desc r.index
    (readSdtEntry r.data = none → exec (.writeSdt p r) s =
      .next (s.answered p r 2 1 r.index 5 r.index r.count [])) ∧
    (∀ c, readSdtEntry r.data = some c → ∃ t, exec (.writeSdt p r) s = .next t ∧
      s.ServesOk t p r 2 1 r.index [] ∧ s.OtherDescs t r.index ∧
      t.desc r.index =
        { config := c, phase := .awaiting, age := 0, rejects := 0, lastT := none, lastRh := none,
          lastAir := none, lastWet := none, clamped := false, saturated := false,
          belowTable := false, unevaluated := false, accessed := d.accessed,
          version := d.version + 1, forwarded := none, formatRejects := d.formatRejects,
          plausibilityRejects := d.plausibilityRejects } ∧
      t.evalQueue = s.evalQueue.filter (fun q => decide (q.sel ≠ r.index)) ∧
      (s.asked p r.commission).Changes t
        ([.sdt, .evalQueue, .surfaces, .zones, .mgmt] ++ reportFields) ∧ s.ZonesKept t ∧
      (d.config = none → t.surfaces = s.surfaces) ∧
      (∀ k, d.config = some k → s.Noticed t k.kind r.index) ∧
      (s.raiseAll (s.gradeEvents t)).SameReports t)

/-- WRITE and EXCHANGE of a surface record at level 1 (R80, R81, R82, R181): a WRITE restarts the record from the
out-of-use values, an EXCHANGE keeps its live state and returns the snapshot; both advance the version; a pad in
force sets WET and CONFIRMED; a grade other than the one held is a counted change with its GRADE event (R96, R97); a
refused entry changes nothing. That a reserved bit of a not-in-use entry is refused is DEDUCED (log 14). -/
def Obligations.SurfaceWriteRestartsAndExchangeKeeps : Prop :=
  ∀ (s : State) (p : Port) (r : MgmtOperand) (i : Fin 64), s.Admits p r.env → r.MayChange p 1 →
    r.count = 1 → r.data.length = 10 → r.index.toNat = i.val →
    let old := s.surface i
    let held := if old.config = none then Grade.blind else old.grade
    let counted := fun g : Grade =>
      if g = held then old.changes else min (old.changes + 1) 65535
    let inForce := fun c : SurfaceConfig => ∃ w k, c.wetness = some w ∧ (s.desc w).config = some k ∧
      k.kind = .wetness ∧ (s.desc w).phase = .live ∧ (s.desc w).lastWet = some .water
    let admitted := fun c : SurfaceConfig =>
      (∃ k, (s.desc c.probe).config = some k ∧ k.kind = .surface) ∧
      (∀ (j : Fin 64) (k : SurfaceConfig), (s.surface j).config = some k → k.probe = c.probe → j = i) ∧
      ∀ w, c.wetness = some w → ∃ k, (s.desc w).config = some k ∧ k.kind = .wetness
    let outOfUse : Surface :=
      { config := none, grade := .blind, confirmed := false, source := none, margin := none,
        dwell := 0, changes := old.changes, version := old.version + 1 }
    let framed := fun t : State => s.OtherSurfaces t i ∧ s.ZonesKept t ∧
      (s.raiseAll (s.gradeEvents t)).SameReports t ∧
      (s.asked p r.commission).Changes t ([.surfaces, .zones, .mgmt] ++ reportFields)
    (readSftEntry r.data = none ∨ (∃ c, readSftEntry r.data = some (some c) ∧ ¬ admitted c) →
      exec (.writeSft p r) s = .next (s.answered p r 2 4 r.index 5 r.index r.count []) ∧
      exec (.exchangeSft p r) s = .next (s.answered p r 3 4 r.index 5 r.index r.count [])) ∧
    (readSftEntry r.data = some none →
      (∃ t, exec (.writeSft p r) s = .next t ∧ s.ServesOk t p r 2 4 r.index [] ∧
        t.surface i = outOfUse ∧ framed t) ∧
      (∃ t, exec (.exchangeSft p r) s = .next t ∧
        s.ServesOk t p r 3 4 r.index (exchangeSnapshot old) ∧ t.surface i = outOfUse ∧ framed t)) ∧
    (∀ c, readSftEntry r.data = some (some c) → admitted c →
      (∃ t, exec (.writeSft p r) s = .next t ∧ s.ServesOk t p r 2 4 r.index [] ∧
        (inForce c → (t.surface i).grade = .wet ∧ (t.surface i).confirmed = true) ∧
        (¬ inForce c → (t.surface i).grade = .blind ∧ (t.surface i).confirmed = false) ∧
        t.surface i =
          { config := some c, grade := (t.surface i).grade, confirmed := (t.surface i).confirmed,
            source := none, margin := none, dwell := 0, changes := counted (t.surface i).grade,
            version := old.version + 1 } ∧ framed t) ∧
      (∃ t, exec (.exchangeSft p r) s = .next t ∧
        s.ServesOk t p r 3 4 r.index (exchangeSnapshot old) ∧ (exchangeSnapshot old).length = 18 ∧
        (∀ oc, old.config = some oc → oc.wetness = c.wetness →
          (t.surface i).grade = old.grade ∧ (t.surface i).confirmed = old.confirmed ∧
          (t.surface i).dwell = old.dwell) ∧
        ((old.config = none ∨ ∃ oc, old.config = some oc ∧ oc.wetness ≠ c.wetness) →
          (inForce c → (t.surface i).grade = .wet ∧ (t.surface i).confirmed = true ∧
            (t.surface i).dwell = 0) ∧
          (¬ inForce c → (t.surface i).grade = old.grade ∧ (t.surface i).confirmed = false ∧
            (t.surface i).dwell = old.dwell)) ∧
        (t.surface i).config = some c ∧ (t.surface i).version = old.version + 1 ∧
        (t.surface i).margin = old.margin ∧ (t.surface i).source = old.source ∧
        (t.surface i).changes = counted (t.surface i).grade ∧ framed t))

/-- WRITE and EXCHANGE of a threshold set at level 1: all five fields are replaced, EXCHANGE returns the old ones,
and a set out of order or range is BAD_VALUE and changes nothing (R79, R181). -/
def Obligations.ThresholdWriteIsCheckedWhole : Prop :=
  ∀ (s : State) (p : Port) (r : MgmtOperand) (i : Fin 8) (b0 b1 b2 b3 b4 b5 b6 b7 : Byte),
    s.Admits p r.env → r.MayChange p 1 → r.count = 1 → r.index.toNat = i.val →
    r.data = [b0, b1, b2, b3, b4, b5, b6, b7] →
    let t : ThrSet :=
      { watch := (b0 ++ b1 : BitVec 16).toInt, alert := (b2 ++ b3 : BitVec 16).toInt,
        wet := (b4 ++ b5 : BitVec 16).toInt, hyst := b6.toNat, dwell := b7.toNat }
    (¬ t.Ordered →
      exec (.writeThr p r) s = .next (s.answered p r 2 5 r.index 5 r.index r.count []) ∧
      exec (.exchangeThr p r) s = .next (s.answered p r 3 5 r.index 5 r.index r.count [])) ∧
    (t.Ordered →
      (∃ u, exec (.writeThr p r) s = .next u ∧ s.ServesOk u p r 2 5 r.index [] ∧
        (∀ j : Fin 8, u.thr.get j = if j = i then t else s.thr.get j) ∧
        (s.asked p r.commission).Changes u [.thr, .mgmt]) ∧
      (∃ u, exec (.exchangeThr p r) s = .next u ∧
        s.ServesOk u p r 3 5 r.index (thrWriteForm (s.thr.get i)) ∧
        (∀ j : Fin 8, u.thr.get j = if j = i then t else s.thr.get j) ∧
        (s.asked p r.commission).Changes u [.thr, .mgmt]))

/-- WRITE of a zone configuration sets the two enables alone; WRITE of a slot binding is BUSY unless the slot is IDLE
or EMPTY, then BAD_VALUE for a bad mode, match or reserved bit, and otherwise binds or unbinds (R62, R109,
R180). -/
def Obligations.ZoneAndSlotWritesSetTheirEntry : Prop :=
  ∀ (s : State) (p : Port) (r : MgmtOperand), s.Admits p r.env → r.MayChange p 1 → r.count = 1 →
    (∀ (z : Fin 32) (b : Byte), r.index.toNat = z.val → r.data = [b] →
      (4 ≤ b.toNat → exec (.writeZone p r) s =
        .next (s.answered p r 2 6 r.index 5 r.index r.count [])) ∧
      (b.toNat < 4 → ∃ t, exec (.writeZone p r) s = .next t ∧ s.ServesOk t p r 2 6 r.index [] ∧
        t.zone z = { s.zone z with summary := b.getLsbD 0, fallback := b.getLsbD 1 } ∧
        (∀ y : Fin 32, y ≠ z → t.zone y = s.zone y) ∧
        (s.asked p r.commission).Changes t [.zones, .mgmt])) ∧
    (∀ (i : Fin 16) (k m n b : Byte), r.index.toNat = i.val → r.data = [k, m, n, b] →
      ((s.slot i).state ≠ .idle → (s.slot i).state ≠ .empty → exec (.writeSlot p r) s =
        .next (s.answered p r 2 7 r.index 1 r.index r.count [])) ∧
      ((s.slot i).state = .idle ∨ (s.slot i).state = .empty →
        (32 ≤ k.toNat ∨ m &&& ~~~n ≠ 0 ∨ 2 ≤ b.toNat % 64 → exec (.writeSlot p r) s =
          .next (s.answered p r 2 7 r.index 5 r.index r.count [])) ∧
        (k.toNat < 32 → m &&& ~~~n = 0 → b.toNat % 64 < 2 →
          ∃ t, exec (.writeSlot p r) s = .next t ∧ s.ServesOk t p r 2 7 r.index [] ∧
            (∀ j : Fin 16, j ≠ i → t.slot j = s.slot j) ∧
            (s.asked p r.commission).Changes t [.slots, .mgmt] ∧
            (k = 0 → t.slot i =
              { s.slot i with
                binding := { kinds := 0, idMatch := 0, idMask := 0, mode := .single,
                             singleShot := false, inhibit := false }
                state := .idle, lost := false, failed := false }) ∧
            (k ≠ 0 → t.slot i =
              { s.slot i with
                binding := { kinds := k.setWidth 5, idMatch := m, idMask := n,
                             mode := if b.toNat % 64 = 0 then .single else .batch,
                             singleShot := b.getLsbD 6, inhibit := b.getLsbD 7 }
                state := .empty }))))

/-- WRITE of the CONFIG entries at level 0: the epoch length returns the count to 0, the silence limit leaves the
counter, the line settings wait at the ports they change; a value outside its range is BAD_VALUE and changes
nothing (R65, R134, R163, R187). -/
def Obligations.ConfigWritesTakeTheirEffects : Prop :=
  ∀ (s : State) (p : Port) (r : MgmtOperand), s.Admits p r.env → r.MayChange p 0 → r.count = 1 →
    (∀ a b : Byte, r.data = [a, b] →
      let v := a.toNat * 256 + b.toNat
      (v < 10 ∨ 600 < v → exec (.writeEpochLength p r) s =
        .next (s.answered p r 2 8 0 5 0 r.count [])) ∧
      (10 ≤ v → v ≤ 600 → ∃ t, exec (.writeEpochLength p r) s = .next t ∧
        s.ServesOk t p r 2 8 0 [] ∧ t.config = { s.config with epochLength := v } ∧
        t.epochCount = 0 ∧ (s.asked p r.commission).Changes t [.config, .epochCount, .mgmt])) ∧
    (∀ a : Byte, r.data = [a] →
      (a.toNat < 2 ∨ 60 < a.toNat → exec (.writeSilenceLimit p r) s =
        .next (s.answered p r 2 8 1 5 1 r.count [])) ∧
      (2 ≤ a.toNat → a.toNat ≤ 60 → ∃ t, exec (.writeSilenceLimit p r) s = .next t ∧
        s.ServesOk t p r 2 8 1 [] ∧ t.config = { s.config with silenceLimit := a.toNat } ∧
        (s.asked p r.commission).Changes t [.config, .mgmt])) ∧
    (r.data.length = 5 →
      (readLinesEntry r.data = none → exec (.writeLineSettings p r) s =
        .next (s.answered p r 2 8 2 5 2 r.count [])) ∧
      (∀ l : Tbl 5 Settings, readLinesEntry r.data = some l →
        ∃ t, exec (.writeLineSettings p r) s = .next t ∧ s.ServesOk t p r 2 8 2 [] ∧
        t.config = { s.config with lines := l } ∧
        (s.asked p r.commission).Changes t [.config, .ports, .mgmt] ∧
        ∀ x : Port,
          let r1 := (s.asked p r.commission).port x
          let w := l.get (portIdx x)
          (w = r1.inForce → t.port x = r1) ∧
          (w ≠ r1.inForce → t.port x =
            { r1 with waiting := some w, settingsReply := r1.settingsReply || decide (x = .u) })))

/-- SVT_LOAD, SVT_COMMIT and RESTART at level 0 (R29 to R32, R174, R182, R185): MALFORMED for the count or the data,
then, for the first two, BUSY by the interlock, then, for the load, BAD_INDEX; an accepted load writes the shadow alone and marks it
DIRTY; an accepted commit begins its check; a RESTART is taken with its OK reply handed to U at once. -/
def Obligations.LoadCommitAndRestartAreTakenByTheirChecks : Prop :=
  ∀ (s : State) (p : Port) (table : Byte) (r : MgmtOperand), s.Admits p r.env → r.MayChange p 0 →
    let n := r.count.toNat
    let i := r.index.toNat
    let older := ∃ j, s.job = some j ∧ j.gen ≠ s.svt.gen
    let fits := 1 ≤ n ∧ n ≤ 14 ∧ r.data.length = 3 * n
    let load := fun st : Byte =>
      exec (.svtLoad p table r) s = .next (s.answered p r 4 table r.index st r.index r.count [])
    let commit := fun st : Byte =>
      exec (.svtCommit p table r) s = .next (s.answered p r 5 table r.index st r.index r.count [])
    (¬ fits → load 8) ∧
    (fits → older → load 1) ∧
    (fits → ¬ older → 251 < i + n → load 4) ∧
    (fits → ¬ older → i + n ≤ 251 → ∃ t, exec (.svtLoad p table r) s = .next t ∧
      t.mgmt = .serving (requestRecord p r.env r.commission (requestPayload 4 table r.index r))
        (replyTo s.unitNo p r.env 4 0 r.index r.count []) ∧
      t.svt.active = s.svt.active ∧ t.svt.gen = s.svt.gen ∧ t.svt.shadowState = .dirty ∧
      (∀ k : Fin 251, (t.svt.shadow.get k).toNat =
        if i ≤ k.val ∧ k.val < i + n then
          (r.data.getD (3 * (k.val - i)) 0).toNat * 65536
            + (r.data.getD (3 * (k.val - i) + 1) 0).toNat * 256
            + (r.data.getD (3 * (k.val - i) + 2) 0).toNat
        else (s.svt.shadow.get k).toNat) ∧
      (s.asked p r.commission).Changes t [.svt, .mgmt]) ∧
    (r.count ≠ 0 ∨ r.data ≠ [] → commit 8) ∧
    (r.count = 0 → r.data = [] → older → commit 1) ∧
    (r.count = 0 → r.data = [] → ¬ older → exec (.svtCommit p table r) s =
      .next ((s.asked p r.commission).setMgmt (.committing
        (requestRecord p r.env r.commission (requestPayload 5 table r.index r))))) ∧
    (r.count ≠ 0 ∨ r.data ≠ [] → exec (.restart p table r) s =
      .next (s.answered p r 8 table r.index 8 r.index r.count [])) ∧
    (r.count = 0 → r.data = [] → exec (.restart p table r) s =
      .next (((s.asked p r.commission).setMgmt (.restarting
        (requestRecord p r.env r.commission (requestPayload 8 table r.index r)))).setTurn
        (s.turn.handed (replyTo s.unitNo p r.env 8 0 r.index 0 []) .restart)))

/-- Requests no other row stands for (R174, R177, R194): too short or an unknown command is MALFORMED, an unknown
table BAD_TABLE, a form the table does not have ILLEGAL_FORM; a WRITE of CONFIG above index 2 is DENIED at too weak a
level, then MALFORMED for a count other than 1, then BAD_INDEX whatever its data (R176, R180). Nothing but the engine
changes. That one row carries them all is the model's choice (log 15). -/
def Obligations.MalformedRequestsAreAnsweredByStatus : Prop :=
  ∀ (s : State) (p : Port) (e : Envelope) (commission : Bool) (payload : List Byte), s.Admits p e →
    let cmd := payload.getD 0 0
    let table := payload.getD 1 0
    let tells := fun st : Byte => exec (.malformedRequest p e commission payload) s =
      .next ((s.asked p commission).setMgmt (.serving (requestRecord p e commission payload)
        (replyTo s.unitNo p e cmd st (payload.getD 2 0) (payload.getD 3 0) [])))
    (payload.length < 4 → tells 8) ∧
    (4 ≤ payload.length →
      (cmd = 0 ∨ 8 < cmd.toNat → tells 8) ∧
      (cmd = 2 ∨ cmd = 3 → table = 0 ∨ 8 < table.toNat → tells 3) ∧
      (cmd = 6 ∨ cmd = 7 → table = 0 ∨ 6 < table.toNat → tells 3) ∧
      (cmd = 2 → table = 2 ∨ table = 3 → tells 6) ∧
      (cmd = 3 → table = 1 ∨ table = 2 ∨ table = 3 ∨ table = 6 ∨ table = 7 ∨ table = 8 → tells 6) ∧
      (cmd = 2 → table = 8 → 2 < (payload.getD 2 0).toNat →
        let level := (requestRecord p e commission payload).level
        (1 ≤ level → tells 2) ∧
        (level = 0 → payload.getD 3 0 ≠ 1 → tells 8) ∧
        (level = 0 → payload.getD 3 0 = 1 → tells 4)))

/-- The ninth law: a request whose effective level is numerically larger than its command needs is answered
DENIED and changes nothing else, a WRITE of CONFIG at an index without an entry included (R174, R176). -/
def Obligations.TooWeakRequestsAreDenied : Prop :=
  ∀ (s : State) (p : Port) (table : Byte) (r : MgmtOperand), s.Admits p r.env →
    let level := (requestRecord p r.env r.commission []).level
    let denied := fun (i : Instr) (t : Byte) =>
      exec i s = .next (s.answered p r (commandCode i) t (rowIndex i r) 2 (rowIndex i r) r.count [])
    (1 ≤ level → denied (.writeSdt p r) 1 ∧ denied (.writeEpochLength p r) 8 ∧
      denied (.writeSilenceLimit p r) 8 ∧ denied (.writeLineSettings p r) 8 ∧
      denied (.svtLoad p table r) table ∧ denied (.svtCommit p table r) table ∧
      denied (.restart p table r) table ∧
      (2 < r.index.toNat → exec (.malformedRequest p r.env r.commission (requestPayload 2 8 r.index r)) s =
        .next (s.answered p r 2 8 r.index 2 r.index r.count []))) ∧
    (2 ≤ level → denied (.writeSft p r) 4 ∧ denied (.exchangeSft p r) 4 ∧ denied (.writeThr p r) 5 ∧
      denied (.exchangeThr p r) 5 ∧ denied (.writeZone p r) 6 ∧ denied (.writeSlot p r) 7 ∧
      denied (.clearAlarm p r) 6) ∧
    (3 ≤ level → denied (.clearCounters p r) 1 ∧ denied (.clearAccessed p r) 2 ∧
      denied (.clearSlotFlags p r) 3 ∧ denied (.clearSurfaceCounts p r) 4 ∧
      denied (.clearZoneFlags p r) 5)

/-! ### Encodings -/

/-- Every frame that fits on a line is read back from its characters, with every field at every value (R126, R128, R129,
R130, 12.2), and every character from the levels it is driven with, under the same settings (R120). A floor port drives
the quarter-cell pulses of its zeros and is dark otherwise, U drives NRZ and idles at mark, each with its transmit
inversion; a cell is read with the receive inversion, stretched on a floor port and at its centre on U, and an active
line before the start cell begins no character (R121, R122, R124). That a port whose receive inversion has changed since
it last received a character looks at the start cell alone is DEDUCED (log 29). -/
def Obligations.FramesSurviveTheLine : Prop :=
  (∀ f : Frame, f.payload.length ≤ 48 → decodeFrame (encodeFrame f) = .good f) ∧
  (∀ (p : Port) (tx rx : Settings) (b : Byte), rx.parity = tx.parity →
    (rx.rxInv = tx.txInv → ∃ c, readLine p rx (charLevels p tx b) = some c ∧ c.data = b ∧
      c.stopBit = true ∧ parityError rx.parity c = false ∧
      lineHeld p rx (charLevels p tx b) = false) ∧
    (rx.rxInv ≠ tx.txInv → readLine p rx (charLevels p tx b) = none)) ∧
  (∀ (r : PortRec) (p : Port), (r.tx = .idle → r.driven p = []) ∧
    ∀ f reply, r.tx = .sending f reply →
      r.driven p = (encodeFrame f).map (charLevels p r.inForce)) ∧
  (∀ (r : PortRec) (q : FloorPort) (b : Byte),
    let dark := r.inForce.txInv
    r.idleDrive (.floor q) = dark ∧ charLevels (.floor q) r.inForce b =
      { before := dark
        cells := (characterCells r.inForce.parity b).map fun x => [x == dark, dark, dark, dark] }) ∧
  (∀ (r : PortRec) (b : Byte),
    let mark := !r.inForce.txInv
    r.idleDrive .u = mark ∧ charLevels .u r.inForce b =
      { before := mark
        cells := (characterCells r.inForce.parity b).map fun x => [x == mark] }) ∧
  (∀ (q : FloorPort) (st : Settings) (levels : List Bool),
    readCell (.floor q) st levels = false ↔ ∃ x ∈ levels, x ≠ st.rxInv) ∧
  (∀ (st : Settings) (levels : List Bool) (x : Bool), levels[levels.length / 2]? = some x →
    readCell .u st levels = (x != st.rxInv)) ∧
  (∀ (p : Port) (st : Settings) (l : LineChar),
    l.before = (match p with
      | .floor _ => !st.rxInv
      | .u => st.rxInv) → readLine p st l = none) ∧
  ∀ (r : PortRec) (p : Port) (l : LineChar),
    (r.rxTurned = false → r.reads p l = readLine p r.inForce l) ∧
    (r.rxTurned = true → ∀ (x : Bool) (xs : List Bool) (rest : List (List Bool)),
      l.cells = (x :: xs) :: rest → ((r.reads p l).isSome = true ↔ match p with
        | .floor _ => x ≠ r.inForce.rxInv
        | .u => x = r.inForce.rxInv))

/-- Every table entry that its table's checks admit is read back from its write form, the three CONFIG entries among
them (12.5, R4, R79, R80, R109, R186, R187). -/
def Obligations.TableEntriesSurviveTheirWriteForm : Prop :=
  (∀ c : SensorConfig, c.valid = true → readSdtEntry (sdtWriteForm (some c)) = some (some c)) ∧
  readSdtEntry (sdtWriteForm none) = some none ∧
  (∀ c : SurfaceConfig, assocValid c.assoc = true → c.probe.toNat % 64 ≠ 0 →
    (∀ w, c.wetness = some w → w.toNat % 64 ≠ 0) →
    readSftEntry (sftWriteForm (some c)) = some (some c)) ∧
  readSftEntry (sftWriteForm none) = some none ∧
  (∀ t : ThrSet, t.Ordered → readThrEntry (thrWriteForm t) = some t) ∧
  (∀ b : SlotBinding, b.idMatch &&& ~~~b.idMask = 0 → readSlotEntry (slotWriteForm b) = some b) ∧
  (∀ z : Zone, readZoneEntry (zoneWriteForm z) = some (z.summary, z.fallback)) ∧
  (∀ l : Tbl 5 Settings, readLinesEntry (linesWriteForm l) = some l) ∧
  (∀ (s : State) (c : UnitConfig), 10 ≤ c.epochLength → c.epochLength ≤ 600 →
    s.writeEpoch (configForm c 0) =
      .ok { s with config := { s.config with epochLength := c.epochLength }, epochCount := 0 }) ∧
  (∀ (s : State) (c : UnitConfig), 2 ≤ c.silenceLimit → c.silenceLimit ≤ 60 →
    s.writeSilence (configForm c 1) =
      .ok { s with config := { s.config with silenceLimit := c.silenceLimit } }) ∧
  ∀ c : UnitConfig, readLinesEntry (configForm c 2) = some c.lines

/-! ### Laws kept by every step -/

/-- The fourth, sixth and twelfth laws are kept by every step, each by itself (R33, R79, R80). -/
def Obligations.StepsKeepTheTableLaws : Prop :=
  (∀ s t : State, s.ActiveRising → step s = .next t → t.ActiveRising) ∧
  (∀ s t : State, s.ThresholdsOrdered → step s = .next t → t.ThresholdsOrdered) ∧
  (∀ s t : State, s.ProbesUnique → step s = .next t → t.ProbesUnique)

/-- The eighth and eleventh laws and the bounds of the evaluation queue, of the downward queues and of the forward queue
are kept by every step, each by itself (R38, R63, R138, R148, R155, R158, R159, R165). That a frame withdrawn into a full
forward queue drops its newest is the model's choice (log 12). -/
def Obligations.StepsKeepTheBounds : Prop :=
  (∀ s t : State, s.WithinBudget → step s = .next t → t.WithinBudget) ∧
  (∀ s t : State, s.WeightsBounded → step s = .next t → t.WeightsBounded) ∧
  (∀ s t : State, s.EvalQueueSound → step s = .next t → t.EvalQueueSound) ∧
  (∀ s t : State, s.DownwardBounded → step s = .next t → t.DownwardBounded) ∧
  (∀ s t : State, s.ForwardQueueBounded → step s = .next t → t.ForwardQueueBounded)

/-- R189 and R71, each by itself: at every step of the running part the CONDENSE line follows its three conditions,
and so the seventh law holds; and every zone's worst grade and worst surface stand as its in-use surfaces have
them (R72). -/
def Obligations.StepsKeepCondenseAndWorstGrades : Prop :=
  (∀ s t : State, s.CondenseFollows → step s = .next t → t.CondenseFollows) ∧
  ∀ s t : State, s.WorstEncoded → step s = .next t → t.WorstEncoded

/-- The fifth law: a surface whose LIVE pad last reported water is WET with CONFIRMED (R92, R78). -/
def Obligations.StepsKeepThePadsObeyed : Prop :=
  ∀ s t : State, s.PadsObeyed → step s = .next t → t.PadsObeyed

/-- The third law: at most one unsent entry about a subject, with what the rule rests on (R103, R105, R107). -/
def Obligations.StepsKeepSubjectsUnique : Prop :=
  ∀ s t : State, s.SubjectsUnique → step s = .next t → t.SubjectsUnique

/-- Every law of Safety.lean holds right after reset. -/
def Obligations.ResetMeetsTheLaws : Prop :=
  State.reset.ActiveRising ∧ State.reset.ThresholdsOrdered ∧ State.reset.ProbesUnique ∧
  State.reset.WithinBudget ∧ State.reset.WeightsBounded ∧ State.reset.EvalQueueSound ∧
  State.reset.DownwardBounded ∧ State.reset.ForwardQueueBounded ∧ State.reset.CondenseFollows ∧ State.reset.PadsObeyed ∧
  State.reset.SubjectsUnique ∧ State.reset.WorstEncoded
end

