-- ==== Sys2Proof/Laws/State.lean ====
section
/-! SUPPORT. What each update of the state changes and what it leaves: the table laws, then one lemma
per field per setter, each true by unfolding the record. -/

namespace Sys2Proof

@[simp] theorem Tbl.get_set_same {n : Nat} {α : Type} (t : Tbl n α) (i : Fin n) (v : α) :
    (t.set i v).get i = v := by
  simp [Tbl.get, Tbl.set]

theorem Tbl.get_set_ne {n : Nat} {α : Type} (t : Tbl n α) {i j : Fin n} (v : α) (h : i ≠ j) :
    (t.set i v).get j = t.get j := by
  have h' : i.val ≠ j.val := fun e => h (Fin.ext e)
  simp [Tbl.get, Tbl.set, h']

theorem Tbl.get_set {n : Nat} {α : Type} (t : Tbl n α) (i j : Fin n) (v : α) :
    (t.set i v).get j = if i = j then v else t.get j := by
  by_cases h : i = j
  · subst h; simp
  · simp [h, Tbl.get_set_ne t v h]

@[simp] theorem Tbl.get_map {n : Nat} {α β : Type} (f : α → β) (t : Tbl n α) (i : Fin n) :
    (t.map f).get i = f (t.get i) := by
  simp [Tbl.get, Tbl.map]

@[simp] theorem Tbl.get_fill {n : Nat} {α : Type} (v : α) (i : Fin n) :
    (Tbl.fill n v).get i = v := by
  simp [Tbl.get, Tbl.fill]

theorem Tbl.ext_get {n : Nat} {α : Type} {t u : Tbl n α} (h : ∀ i, t.get i = u.get i) : t = u := by
  cases t with
  | mk a ha => cases u with
    | mk b hb =>
      congr
      apply List.ext_getElem (by omega)
      intro k h1 h2
      exact h ⟨k, by omega⟩

@[simp] theorem Tbl.set_get_self {n : Nat} {α : Type} (t : Tbl n α) (i : Fin n) :
    t.set i (t.get i) = t := by
  apply Tbl.ext_get
  intro j
  rw [Tbl.get_set]
  split
  · next h => rw [h]
  · rfl

@[simp] theorem Tbl.mem_indices {n : Nat} {α : Type} (t : Tbl n α) (p : α → Bool) (i : Fin n) :
    i ∈ t.indices p ↔ p (t.get i) = true := by
  simp [Tbl.indices]

namespace Machine

/-! `setPower` -/

@[simp] theorem State.setPower_power (s : State) (v : Power) : (s.setPower v).power = v := rfl
@[simp] theorem State.setPower_pins (s : State) (v : Power) : (s.setPower v).pins = s.pins := rfl
@[simp] theorem State.setPower_unitNo (s : State) (v : Power) : (s.setPower v).unitNo = s.unitNo := rfl
@[simp] theorem State.setPower_ports (s : State) (v : Power) : (s.setPower v).ports = s.ports := rfl
@[simp] theorem State.setPower_sdt (s : State) (v : Power) : (s.setPower v).sdt = s.sdt := rfl
@[simp] theorem State.setPower_svt (s : State) (v : Power) : (s.setPower v).svt = s.svt := rfl
@[simp] theorem State.setPower_evalQueue (s : State) (v : Power) : (s.setPower v).evalQueue = s.evalQueue := rfl
@[simp] theorem State.setPower_zoneClose (s : State) (v : Power) : (s.setPower v).zoneClose = s.zoneClose := rfl
@[simp] theorem State.setPower_job (s : State) (v : Power) : (s.setPower v).job = s.job := rfl
@[simp] theorem State.setPower_zones (s : State) (v : Power) : (s.setPower v).zones = s.zones := rfl
@[simp] theorem State.setPower_epochCount (s : State) (v : Power) : (s.setPower v).epochCount = s.epochCount := rfl
@[simp] theorem State.setPower_surfaces (s : State) (v : Power) : (s.setPower v).surfaces = s.surfaces := rfl
@[simp] theorem State.setPower_thr (s : State) (v : Power) : (s.setPower v).thr = s.thr := rfl
@[simp] theorem State.setPower_slots (s : State) (v : Power) : (s.setPower v).slots = s.slots := rfl
@[simp] theorem State.setPower_alarmLoss (s : State) (v : Power) : (s.setPower v).alarmLoss = s.alarmLoss := rfl
@[simp] theorem State.setPower_counters (s : State) (v : Power) : (s.setPower v).counters = s.counters := rfl
@[simp] theorem State.setPower_turn (s : State) (v : Power) : (s.setPower v).turn = s.turn := rfl
@[simp] theorem State.setPower_mgmt (s : State) (v : Power) : (s.setPower v).mgmt = s.mgmt := rfl
@[simp] theorem State.setPower_config (s : State) (v : Power) : (s.setPower v).config = s.config := rfl
@[simp] theorem State.setPower_condense (s : State) (v : Power) : (s.setPower v).condense = s.condense := rfl
@[simp] theorem State.setPower_due (s : State) (v : Power) : (s.setPower v).due = s.due := rfl
@[simp] theorem State.setPower_pending (s : State) (v : Power) : (s.setPower v).pending = s.pending := rfl

/-! `setPins` -/

@[simp] theorem State.setPins_power (s : State) (v : Pins) : (s.setPins v).power = s.power := rfl
@[simp] theorem State.setPins_pins (s : State) (v : Pins) : (s.setPins v).pins = v := rfl
@[simp] theorem State.setPins_unitNo (s : State) (v : Pins) : (s.setPins v).unitNo = s.unitNo := rfl
@[simp] theorem State.setPins_ports (s : State) (v : Pins) : (s.setPins v).ports = s.ports := rfl
@[simp] theorem State.setPins_sdt (s : State) (v : Pins) : (s.setPins v).sdt = s.sdt := rfl
@[simp] theorem State.setPins_svt (s : State) (v : Pins) : (s.setPins v).svt = s.svt := rfl
@[simp] theorem State.setPins_evalQueue (s : State) (v : Pins) : (s.setPins v).evalQueue = s.evalQueue := rfl
@[simp] theorem State.setPins_zoneClose (s : State) (v : Pins) : (s.setPins v).zoneClose = s.zoneClose := rfl
@[simp] theorem State.setPins_job (s : State) (v : Pins) : (s.setPins v).job = s.job := rfl
@[simp] theorem State.setPins_zones (s : State) (v : Pins) : (s.setPins v).zones = s.zones := rfl
@[simp] theorem State.setPins_epochCount (s : State) (v : Pins) : (s.setPins v).epochCount = s.epochCount := rfl
@[simp] theorem State.setPins_surfaces (s : State) (v : Pins) : (s.setPins v).surfaces = s.surfaces := rfl
@[simp] theorem State.setPins_thr (s : State) (v : Pins) : (s.setPins v).thr = s.thr := rfl
@[simp] theorem State.setPins_slots (s : State) (v : Pins) : (s.setPins v).slots = s.slots := rfl
@[simp] theorem State.setPins_alarmLoss (s : State) (v : Pins) : (s.setPins v).alarmLoss = s.alarmLoss := rfl
@[simp] theorem State.setPins_counters (s : State) (v : Pins) : (s.setPins v).counters = s.counters := rfl
@[simp] theorem State.setPins_turn (s : State) (v : Pins) : (s.setPins v).turn = s.turn := rfl
@[simp] theorem State.setPins_mgmt (s : State) (v : Pins) : (s.setPins v).mgmt = s.mgmt := rfl
@[simp] theorem State.setPins_config (s : State) (v : Pins) : (s.setPins v).config = s.config := rfl
@[simp] theorem State.setPins_condense (s : State) (v : Pins) : (s.setPins v).condense = s.condense := rfl
@[simp] theorem State.setPins_due (s : State) (v : Pins) : (s.setPins v).due = s.due := rfl
@[simp] theorem State.setPins_pending (s : State) (v : Pins) : (s.setPins v).pending = s.pending := rfl

/-! `setUnitNo` -/

@[simp] theorem State.setUnitNo_power (s : State) (v : BitVec 4) : (s.setUnitNo v).power = s.power := rfl
@[simp] theorem State.setUnitNo_pins (s : State) (v : BitVec 4) : (s.setUnitNo v).pins = s.pins := rfl
@[simp] theorem State.setUnitNo_unitNo (s : State) (v : BitVec 4) : (s.setUnitNo v).unitNo = v := rfl
@[simp] theorem State.setUnitNo_ports (s : State) (v : BitVec 4) : (s.setUnitNo v).ports = s.ports := rfl
@[simp] theorem State.setUnitNo_sdt (s : State) (v : BitVec 4) : (s.setUnitNo v).sdt = s.sdt := rfl
@[simp] theorem State.setUnitNo_svt (s : State) (v : BitVec 4) : (s.setUnitNo v).svt = s.svt := rfl
@[simp] theorem State.setUnitNo_evalQueue (s : State) (v : BitVec 4) : (s.setUnitNo v).evalQueue = s.evalQueue := rfl
@[simp] theorem State.setUnitNo_zoneClose (s : State) (v : BitVec 4) : (s.setUnitNo v).zoneClose = s.zoneClose := rfl
@[simp] theorem State.setUnitNo_job (s : State) (v : BitVec 4) : (s.setUnitNo v).job = s.job := rfl
@[simp] theorem State.setUnitNo_zones (s : State) (v : BitVec 4) : (s.setUnitNo v).zones = s.zones := rfl
@[simp] theorem State.setUnitNo_epochCount (s : State) (v : BitVec 4) : (s.setUnitNo v).epochCount = s.epochCount := rfl
@[simp] theorem State.setUnitNo_surfaces (s : State) (v : BitVec 4) : (s.setUnitNo v).surfaces = s.surfaces := rfl
@[simp] theorem State.setUnitNo_thr (s : State) (v : BitVec 4) : (s.setUnitNo v).thr = s.thr := rfl
@[simp] theorem State.setUnitNo_slots (s : State) (v : BitVec 4) : (s.setUnitNo v).slots = s.slots := rfl
@[simp] theorem State.setUnitNo_alarmLoss (s : State) (v : BitVec 4) : (s.setUnitNo v).alarmLoss = s.alarmLoss := rfl
@[simp] theorem State.setUnitNo_counters (s : State) (v : BitVec 4) : (s.setUnitNo v).counters = s.counters := rfl
@[simp] theorem State.setUnitNo_turn (s : State) (v : BitVec 4) : (s.setUnitNo v).turn = s.turn := rfl
@[simp] theorem State.setUnitNo_mgmt (s : State) (v : BitVec 4) : (s.setUnitNo v).mgmt = s.mgmt := rfl
@[simp] theorem State.setUnitNo_config (s : State) (v : BitVec 4) : (s.setUnitNo v).config = s.config := rfl
@[simp] theorem State.setUnitNo_condense (s : State) (v : BitVec 4) : (s.setUnitNo v).condense = s.condense := rfl
@[simp] theorem State.setUnitNo_due (s : State) (v : BitVec 4) : (s.setUnitNo v).due = s.due := rfl
@[simp] theorem State.setUnitNo_pending (s : State) (v : BitVec 4) : (s.setUnitNo v).pending = s.pending := rfl

/-! `setPorts` -/

@[simp] theorem State.setPorts_power (s : State) (v : Tbl 5 PortRec) : (s.setPorts v).power = s.power := rfl
@[simp] theorem State.setPorts_pins (s : State) (v : Tbl 5 PortRec) : (s.setPorts v).pins = s.pins := rfl
@[simp] theorem State.setPorts_unitNo (s : State) (v : Tbl 5 PortRec) : (s.setPorts v).unitNo = s.unitNo := rfl
@[simp] theorem State.setPorts_ports (s : State) (v : Tbl 5 PortRec) : (s.setPorts v).ports = v := rfl
@[simp] theorem State.setPorts_sdt (s : State) (v : Tbl 5 PortRec) : (s.setPorts v).sdt = s.sdt := rfl
@[simp] theorem State.setPorts_svt (s : State) (v : Tbl 5 PortRec) : (s.setPorts v).svt = s.svt := rfl
@[simp] theorem State.setPorts_evalQueue (s : State) (v : Tbl 5 PortRec) : (s.setPorts v).evalQueue = s.evalQueue := rfl
@[simp] theorem State.setPorts_zoneClose (s : State) (v : Tbl 5 PortRec) : (s.setPorts v).zoneClose = s.zoneClose := rfl
@[simp] theorem State.setPorts_job (s : State) (v : Tbl 5 PortRec) : (s.setPorts v).job = s.job := rfl
@[simp] theorem State.setPorts_zones (s : State) (v : Tbl 5 PortRec) : (s.setPorts v).zones = s.zones := rfl
@[simp] theorem State.setPorts_epochCount (s : State) (v : Tbl 5 PortRec) : (s.setPorts v).epochCount = s.epochCount := rfl
@[simp] theorem State.setPorts_surfaces (s : State) (v : Tbl 5 PortRec) : (s.setPorts v).surfaces = s.surfaces := rfl
@[simp] theorem State.setPorts_thr (s : State) (v : Tbl 5 PortRec) : (s.setPorts v).thr = s.thr := rfl
@[simp] theorem State.setPorts_slots (s : State) (v : Tbl 5 PortRec) : (s.setPorts v).slots = s.slots := rfl
@[simp] theorem State.setPorts_alarmLoss (s : State) (v : Tbl 5 PortRec) : (s.setPorts v).alarmLoss = s.alarmLoss := rfl
@[simp] theorem State.setPorts_counters (s : State) (v : Tbl 5 PortRec) : (s.setPorts v).counters = s.counters := rfl
@[simp] theorem State.setPorts_turn (s : State) (v : Tbl 5 PortRec) : (s.setPorts v).turn = s.turn := rfl
@[simp] theorem State.setPorts_mgmt (s : State) (v : Tbl 5 PortRec) : (s.setPorts v).mgmt = s.mgmt := rfl
@[simp] theorem State.setPorts_config (s : State) (v : Tbl 5 PortRec) : (s.setPorts v).config = s.config := rfl
@[simp] theorem State.setPorts_condense (s : State) (v : Tbl 5 PortRec) : (s.setPorts v).condense = s.condense := rfl
@[simp] theorem State.setPorts_due (s : State) (v : Tbl 5 PortRec) : (s.setPorts v).due = s.due := rfl
@[simp] theorem State.setPorts_pending (s : State) (v : Tbl 5 PortRec) : (s.setPorts v).pending = s.pending := rfl

/-! `setSdt` -/

@[simp] theorem State.setSdt_power (s : State) (v : Tbl 256 Descriptor) : (s.setSdt v).power = s.power := rfl
@[simp] theorem State.setSdt_pins (s : State) (v : Tbl 256 Descriptor) : (s.setSdt v).pins = s.pins := rfl
@[simp] theorem State.setSdt_unitNo (s : State) (v : Tbl 256 Descriptor) : (s.setSdt v).unitNo = s.unitNo := rfl
@[simp] theorem State.setSdt_ports (s : State) (v : Tbl 256 Descriptor) : (s.setSdt v).ports = s.ports := rfl
@[simp] theorem State.setSdt_sdt (s : State) (v : Tbl 256 Descriptor) : (s.setSdt v).sdt = v := rfl
@[simp] theorem State.setSdt_svt (s : State) (v : Tbl 256 Descriptor) : (s.setSdt v).svt = s.svt := rfl
@[simp] theorem State.setSdt_evalQueue (s : State) (v : Tbl 256 Descriptor) : (s.setSdt v).evalQueue = s.evalQueue := rfl
@[simp] theorem State.setSdt_zoneClose (s : State) (v : Tbl 256 Descriptor) : (s.setSdt v).zoneClose = s.zoneClose := rfl
@[simp] theorem State.setSdt_job (s : State) (v : Tbl 256 Descriptor) : (s.setSdt v).job = s.job := rfl
@[simp] theorem State.setSdt_zones (s : State) (v : Tbl 256 Descriptor) : (s.setSdt v).zones = s.zones := rfl
@[simp] theorem State.setSdt_epochCount (s : State) (v : Tbl 256 Descriptor) : (s.setSdt v).epochCount = s.epochCount := rfl
@[simp] theorem State.setSdt_surfaces (s : State) (v : Tbl 256 Descriptor) : (s.setSdt v).surfaces = s.surfaces := rfl
@[simp] theorem State.setSdt_thr (s : State) (v : Tbl 256 Descriptor) : (s.setSdt v).thr = s.thr := rfl
@[simp] theorem State.setSdt_slots (s : State) (v : Tbl 256 Descriptor) : (s.setSdt v).slots = s.slots := rfl
@[simp] theorem State.setSdt_alarmLoss (s : State) (v : Tbl 256 Descriptor) : (s.setSdt v).alarmLoss = s.alarmLoss := rfl
@[simp] theorem State.setSdt_counters (s : State) (v : Tbl 256 Descriptor) : (s.setSdt v).counters = s.counters := rfl
@[simp] theorem State.setSdt_turn (s : State) (v : Tbl 256 Descriptor) : (s.setSdt v).turn = s.turn := rfl
@[simp] theorem State.setSdt_mgmt (s : State) (v : Tbl 256 Descriptor) : (s.setSdt v).mgmt = s.mgmt := rfl
@[simp] theorem State.setSdt_config (s : State) (v : Tbl 256 Descriptor) : (s.setSdt v).config = s.config := rfl
@[simp] theorem State.setSdt_condense (s : State) (v : Tbl 256 Descriptor) : (s.setSdt v).condense = s.condense := rfl
@[simp] theorem State.setSdt_due (s : State) (v : Tbl 256 Descriptor) : (s.setSdt v).due = s.due := rfl
@[simp] theorem State.setSdt_pending (s : State) (v : Tbl 256 Descriptor) : (s.setSdt v).pending = s.pending := rfl

/-! `setSvt` -/

@[simp] theorem State.setSvt_power (s : State) (v : Svt) : (s.setSvt v).power = s.power := rfl
@[simp] theorem State.setSvt_pins (s : State) (v : Svt) : (s.setSvt v).pins = s.pins := rfl
@[simp] theorem State.setSvt_unitNo (s : State) (v : Svt) : (s.setSvt v).unitNo = s.unitNo := rfl
@[simp] theorem State.setSvt_ports (s : State) (v : Svt) : (s.setSvt v).ports = s.ports := rfl
@[simp] theorem State.setSvt_sdt (s : State) (v : Svt) : (s.setSvt v).sdt = s.sdt := rfl
@[simp] theorem State.setSvt_svt (s : State) (v : Svt) : (s.setSvt v).svt = v := rfl
@[simp] theorem State.setSvt_evalQueue (s : State) (v : Svt) : (s.setSvt v).evalQueue = s.evalQueue := rfl
@[simp] theorem State.setSvt_zoneClose (s : State) (v : Svt) : (s.setSvt v).zoneClose = s.zoneClose := rfl
@[simp] theorem State.setSvt_job (s : State) (v : Svt) : (s.setSvt v).job = s.job := rfl
@[simp] theorem State.setSvt_zones (s : State) (v : Svt) : (s.setSvt v).zones = s.zones := rfl
@[simp] theorem State.setSvt_epochCount (s : State) (v : Svt) : (s.setSvt v).epochCount = s.epochCount := rfl
@[simp] theorem State.setSvt_surfaces (s : State) (v : Svt) : (s.setSvt v).surfaces = s.surfaces := rfl
@[simp] theorem State.setSvt_thr (s : State) (v : Svt) : (s.setSvt v).thr = s.thr := rfl
@[simp] theorem State.setSvt_slots (s : State) (v : Svt) : (s.setSvt v).slots = s.slots := rfl
@[simp] theorem State.setSvt_alarmLoss (s : State) (v : Svt) : (s.setSvt v).alarmLoss = s.alarmLoss := rfl
@[simp] theorem State.setSvt_counters (s : State) (v : Svt) : (s.setSvt v).counters = s.counters := rfl
@[simp] theorem State.setSvt_turn (s : State) (v : Svt) : (s.setSvt v).turn = s.turn := rfl
@[simp] theorem State.setSvt_mgmt (s : State) (v : Svt) : (s.setSvt v).mgmt = s.mgmt := rfl
@[simp] theorem State.setSvt_config (s : State) (v : Svt) : (s.setSvt v).config = s.config := rfl
@[simp] theorem State.setSvt_condense (s : State) (v : Svt) : (s.setSvt v).condense = s.condense := rfl
@[simp] theorem State.setSvt_due (s : State) (v : Svt) : (s.setSvt v).due = s.due := rfl
@[simp] theorem State.setSvt_pending (s : State) (v : Svt) : (s.setSvt v).pending = s.pending := rfl

/-! `setEvalQueue` -/

@[simp] theorem State.setEvalQueue_power (s : State) (v : List SampleJob) : (s.setEvalQueue v).power = s.power := rfl
@[simp] theorem State.setEvalQueue_pins (s : State) (v : List SampleJob) : (s.setEvalQueue v).pins = s.pins := rfl
@[simp] theorem State.setEvalQueue_unitNo (s : State) (v : List SampleJob) : (s.setEvalQueue v).unitNo = s.unitNo := rfl
@[simp] theorem State.setEvalQueue_ports (s : State) (v : List SampleJob) : (s.setEvalQueue v).ports = s.ports := rfl
@[simp] theorem State.setEvalQueue_sdt (s : State) (v : List SampleJob) : (s.setEvalQueue v).sdt = s.sdt := rfl
@[simp] theorem State.setEvalQueue_svt (s : State) (v : List SampleJob) : (s.setEvalQueue v).svt = s.svt := rfl
@[simp] theorem State.setEvalQueue_evalQueue (s : State) (v : List SampleJob) : (s.setEvalQueue v).evalQueue = v := rfl
@[simp] theorem State.setEvalQueue_zoneClose (s : State) (v : List SampleJob) : (s.setEvalQueue v).zoneClose = s.zoneClose := rfl
@[simp] theorem State.setEvalQueue_job (s : State) (v : List SampleJob) : (s.setEvalQueue v).job = s.job := rfl
@[simp] theorem State.setEvalQueue_zones (s : State) (v : List SampleJob) : (s.setEvalQueue v).zones = s.zones := rfl
@[simp] theorem State.setEvalQueue_epochCount (s : State) (v : List SampleJob) : (s.setEvalQueue v).epochCount = s.epochCount := rfl
@[simp] theorem State.setEvalQueue_surfaces (s : State) (v : List SampleJob) : (s.setEvalQueue v).surfaces = s.surfaces := rfl
@[simp] theorem State.setEvalQueue_thr (s : State) (v : List SampleJob) : (s.setEvalQueue v).thr = s.thr := rfl
@[simp] theorem State.setEvalQueue_slots (s : State) (v : List SampleJob) : (s.setEvalQueue v).slots = s.slots := rfl
@[simp] theorem State.setEvalQueue_alarmLoss (s : State) (v : List SampleJob) : (s.setEvalQueue v).alarmLoss = s.alarmLoss := rfl
@[simp] theorem State.setEvalQueue_counters (s : State) (v : List SampleJob) : (s.setEvalQueue v).counters = s.counters := rfl
@[simp] theorem State.setEvalQueue_turn (s : State) (v : List SampleJob) : (s.setEvalQueue v).turn = s.turn := rfl
@[simp] theorem State.setEvalQueue_mgmt (s : State) (v : List SampleJob) : (s.setEvalQueue v).mgmt = s.mgmt := rfl
@[simp] theorem State.setEvalQueue_config (s : State) (v : List SampleJob) : (s.setEvalQueue v).config = s.config := rfl
@[simp] theorem State.setEvalQueue_condense (s : State) (v : List SampleJob) : (s.setEvalQueue v).condense = s.condense := rfl
@[simp] theorem State.setEvalQueue_due (s : State) (v : List SampleJob) : (s.setEvalQueue v).due = s.due := rfl
@[simp] theorem State.setEvalQueue_pending (s : State) (v : List SampleJob) : (s.setEvalQueue v).pending = s.pending := rfl

/-! `setZoneClose` -/

@[simp] theorem State.setZoneClose_power (s : State) (v : Tbl 32 (Option Snapshot)) : (s.setZoneClose v).power = s.power := rfl
@[simp] theorem State.setZoneClose_pins (s : State) (v : Tbl 32 (Option Snapshot)) : (s.setZoneClose v).pins = s.pins := rfl
@[simp] theorem State.setZoneClose_unitNo (s : State) (v : Tbl 32 (Option Snapshot)) : (s.setZoneClose v).unitNo = s.unitNo := rfl
@[simp] theorem State.setZoneClose_ports (s : State) (v : Tbl 32 (Option Snapshot)) : (s.setZoneClose v).ports = s.ports := rfl
@[simp] theorem State.setZoneClose_sdt (s : State) (v : Tbl 32 (Option Snapshot)) : (s.setZoneClose v).sdt = s.sdt := rfl
@[simp] theorem State.setZoneClose_svt (s : State) (v : Tbl 32 (Option Snapshot)) : (s.setZoneClose v).svt = s.svt := rfl
@[simp] theorem State.setZoneClose_evalQueue (s : State) (v : Tbl 32 (Option Snapshot)) : (s.setZoneClose v).evalQueue = s.evalQueue := rfl
@[simp] theorem State.setZoneClose_zoneClose (s : State) (v : Tbl 32 (Option Snapshot)) : (s.setZoneClose v).zoneClose = v := rfl
@[simp] theorem State.setZoneClose_job (s : State) (v : Tbl 32 (Option Snapshot)) : (s.setZoneClose v).job = s.job := rfl
@[simp] theorem State.setZoneClose_zones (s : State) (v : Tbl 32 (Option Snapshot)) : (s.setZoneClose v).zones = s.zones := rfl
@[simp] theorem State.setZoneClose_epochCount (s : State) (v : Tbl 32 (Option Snapshot)) : (s.setZoneClose v).epochCount = s.epochCount := rfl
@[simp] theorem State.setZoneClose_surfaces (s : State) (v : Tbl 32 (Option Snapshot)) : (s.setZoneClose v).surfaces = s.surfaces := rfl
@[simp] theorem State.setZoneClose_thr (s : State) (v : Tbl 32 (Option Snapshot)) : (s.setZoneClose v).thr = s.thr := rfl
@[simp] theorem State.setZoneClose_slots (s : State) (v : Tbl 32 (Option Snapshot)) : (s.setZoneClose v).slots = s.slots := rfl
@[simp] theorem State.setZoneClose_alarmLoss (s : State) (v : Tbl 32 (Option Snapshot)) : (s.setZoneClose v).alarmLoss = s.alarmLoss := rfl
@[simp] theorem State.setZoneClose_counters (s : State) (v : Tbl 32 (Option Snapshot)) : (s.setZoneClose v).counters = s.counters := rfl
@[simp] theorem State.setZoneClose_turn (s : State) (v : Tbl 32 (Option Snapshot)) : (s.setZoneClose v).turn = s.turn := rfl
@[simp] theorem State.setZoneClose_mgmt (s : State) (v : Tbl 32 (Option Snapshot)) : (s.setZoneClose v).mgmt = s.mgmt := rfl
@[simp] theorem State.setZoneClose_config (s : State) (v : Tbl 32 (Option Snapshot)) : (s.setZoneClose v).config = s.config := rfl
@[simp] theorem State.setZoneClose_condense (s : State) (v : Tbl 32 (Option Snapshot)) : (s.setZoneClose v).condense = s.condense := rfl
@[simp] theorem State.setZoneClose_due (s : State) (v : Tbl 32 (Option Snapshot)) : (s.setZoneClose v).due = s.due := rfl
@[simp] theorem State.setZoneClose_pending (s : State) (v : Tbl 32 (Option Snapshot)) : (s.setZoneClose v).pending = s.pending := rfl

/-! `setJob` -/

@[simp] theorem State.setJob_power (s : State) (v : Option Job) : (s.setJob v).power = s.power := rfl
@[simp] theorem State.setJob_pins (s : State) (v : Option Job) : (s.setJob v).pins = s.pins := rfl
@[simp] theorem State.setJob_unitNo (s : State) (v : Option Job) : (s.setJob v).unitNo = s.unitNo := rfl
@[simp] theorem State.setJob_ports (s : State) (v : Option Job) : (s.setJob v).ports = s.ports := rfl
@[simp] theorem State.setJob_sdt (s : State) (v : Option Job) : (s.setJob v).sdt = s.sdt := rfl
@[simp] theorem State.setJob_svt (s : State) (v : Option Job) : (s.setJob v).svt = s.svt := rfl
@[simp] theorem State.setJob_evalQueue (s : State) (v : Option Job) : (s.setJob v).evalQueue = s.evalQueue := rfl
@[simp] theorem State.setJob_zoneClose (s : State) (v : Option Job) : (s.setJob v).zoneClose = s.zoneClose := rfl
@[simp] theorem State.setJob_job (s : State) (v : Option Job) : (s.setJob v).job = v := rfl
@[simp] theorem State.setJob_zones (s : State) (v : Option Job) : (s.setJob v).zones = s.zones := rfl
@[simp] theorem State.setJob_epochCount (s : State) (v : Option Job) : (s.setJob v).epochCount = s.epochCount := rfl
@[simp] theorem State.setJob_surfaces (s : State) (v : Option Job) : (s.setJob v).surfaces = s.surfaces := rfl
@[simp] theorem State.setJob_thr (s : State) (v : Option Job) : (s.setJob v).thr = s.thr := rfl
@[simp] theorem State.setJob_slots (s : State) (v : Option Job) : (s.setJob v).slots = s.slots := rfl
@[simp] theorem State.setJob_alarmLoss (s : State) (v : Option Job) : (s.setJob v).alarmLoss = s.alarmLoss := rfl
@[simp] theorem State.setJob_counters (s : State) (v : Option Job) : (s.setJob v).counters = s.counters := rfl
@[simp] theorem State.setJob_turn (s : State) (v : Option Job) : (s.setJob v).turn = s.turn := rfl
@[simp] theorem State.setJob_mgmt (s : State) (v : Option Job) : (s.setJob v).mgmt = s.mgmt := rfl
@[simp] theorem State.setJob_config (s : State) (v : Option Job) : (s.setJob v).config = s.config := rfl
@[simp] theorem State.setJob_condense (s : State) (v : Option Job) : (s.setJob v).condense = s.condense := rfl
@[simp] theorem State.setJob_due (s : State) (v : Option Job) : (s.setJob v).due = s.due := rfl
@[simp] theorem State.setJob_pending (s : State) (v : Option Job) : (s.setJob v).pending = s.pending := rfl

/-! `setZones` -/

@[simp] theorem State.setZones_power (s : State) (v : Tbl 32 Zone) : (s.setZones v).power = s.power := rfl
@[simp] theorem State.setZones_pins (s : State) (v : Tbl 32 Zone) : (s.setZones v).pins = s.pins := rfl
@[simp] theorem State.setZones_unitNo (s : State) (v : Tbl 32 Zone) : (s.setZones v).unitNo = s.unitNo := rfl
@[simp] theorem State.setZones_ports (s : State) (v : Tbl 32 Zone) : (s.setZones v).ports = s.ports := rfl
@[simp] theorem State.setZones_sdt (s : State) (v : Tbl 32 Zone) : (s.setZones v).sdt = s.sdt := rfl
@[simp] theorem State.setZones_svt (s : State) (v : Tbl 32 Zone) : (s.setZones v).svt = s.svt := rfl
@[simp] theorem State.setZones_evalQueue (s : State) (v : Tbl 32 Zone) : (s.setZones v).evalQueue = s.evalQueue := rfl
@[simp] theorem State.setZones_zoneClose (s : State) (v : Tbl 32 Zone) : (s.setZones v).zoneClose = s.zoneClose := rfl
@[simp] theorem State.setZones_job (s : State) (v : Tbl 32 Zone) : (s.setZones v).job = s.job := rfl
@[simp] theorem State.setZones_zones (s : State) (v : Tbl 32 Zone) : (s.setZones v).zones = v := rfl
@[simp] theorem State.setZones_epochCount (s : State) (v : Tbl 32 Zone) : (s.setZones v).epochCount = s.epochCount := rfl
@[simp] theorem State.setZones_surfaces (s : State) (v : Tbl 32 Zone) : (s.setZones v).surfaces = s.surfaces := rfl
@[simp] theorem State.setZones_thr (s : State) (v : Tbl 32 Zone) : (s.setZones v).thr = s.thr := rfl
@[simp] theorem State.setZones_slots (s : State) (v : Tbl 32 Zone) : (s.setZones v).slots = s.slots := rfl
@[simp] theorem State.setZones_alarmLoss (s : State) (v : Tbl 32 Zone) : (s.setZones v).alarmLoss = s.alarmLoss := rfl
@[simp] theorem State.setZones_counters (s : State) (v : Tbl 32 Zone) : (s.setZones v).counters = s.counters := rfl
@[simp] theorem State.setZones_turn (s : State) (v : Tbl 32 Zone) : (s.setZones v).turn = s.turn := rfl
@[simp] theorem State.setZones_mgmt (s : State) (v : Tbl 32 Zone) : (s.setZones v).mgmt = s.mgmt := rfl
@[simp] theorem State.setZones_config (s : State) (v : Tbl 32 Zone) : (s.setZones v).config = s.config := rfl
@[simp] theorem State.setZones_condense (s : State) (v : Tbl 32 Zone) : (s.setZones v).condense = s.condense := rfl
@[simp] theorem State.setZones_due (s : State) (v : Tbl 32 Zone) : (s.setZones v).due = s.due := rfl
@[simp] theorem State.setZones_pending (s : State) (v : Tbl 32 Zone) : (s.setZones v).pending = s.pending := rfl

/-! `setEpochCount` -/

@[simp] theorem State.setEpochCount_power (s : State) (v : Nat) : (s.setEpochCount v).power = s.power := rfl
@[simp] theorem State.setEpochCount_pins (s : State) (v : Nat) : (s.setEpochCount v).pins = s.pins := rfl
@[simp] theorem State.setEpochCount_unitNo (s : State) (v : Nat) : (s.setEpochCount v).unitNo = s.unitNo := rfl
@[simp] theorem State.setEpochCount_ports (s : State) (v : Nat) : (s.setEpochCount v).ports = s.ports := rfl
@[simp] theorem State.setEpochCount_sdt (s : State) (v : Nat) : (s.setEpochCount v).sdt = s.sdt := rfl
@[simp] theorem State.setEpochCount_svt (s : State) (v : Nat) : (s.setEpochCount v).svt = s.svt := rfl
@[simp] theorem State.setEpochCount_evalQueue (s : State) (v : Nat) : (s.setEpochCount v).evalQueue = s.evalQueue := rfl
@[simp] theorem State.setEpochCount_zoneClose (s : State) (v : Nat) : (s.setEpochCount v).zoneClose = s.zoneClose := rfl
@[simp] theorem State.setEpochCount_job (s : State) (v : Nat) : (s.setEpochCount v).job = s.job := rfl
@[simp] theorem State.setEpochCount_zones (s : State) (v : Nat) : (s.setEpochCount v).zones = s.zones := rfl
@[simp] theorem State.setEpochCount_epochCount (s : State) (v : Nat) : (s.setEpochCount v).epochCount = v := rfl
@[simp] theorem State.setEpochCount_surfaces (s : State) (v : Nat) : (s.setEpochCount v).surfaces = s.surfaces := rfl
@[simp] theorem State.setEpochCount_thr (s : State) (v : Nat) : (s.setEpochCount v).thr = s.thr := rfl
@[simp] theorem State.setEpochCount_slots (s : State) (v : Nat) : (s.setEpochCount v).slots = s.slots := rfl
@[simp] theorem State.setEpochCount_alarmLoss (s : State) (v : Nat) : (s.setEpochCount v).alarmLoss = s.alarmLoss := rfl
@[simp] theorem State.setEpochCount_counters (s : State) (v : Nat) : (s.setEpochCount v).counters = s.counters := rfl
@[simp] theorem State.setEpochCount_turn (s : State) (v : Nat) : (s.setEpochCount v).turn = s.turn := rfl
@[simp] theorem State.setEpochCount_mgmt (s : State) (v : Nat) : (s.setEpochCount v).mgmt = s.mgmt := rfl
@[simp] theorem State.setEpochCount_config (s : State) (v : Nat) : (s.setEpochCount v).config = s.config := rfl
@[simp] theorem State.setEpochCount_condense (s : State) (v : Nat) : (s.setEpochCount v).condense = s.condense := rfl
@[simp] theorem State.setEpochCount_due (s : State) (v : Nat) : (s.setEpochCount v).due = s.due := rfl
@[simp] theorem State.setEpochCount_pending (s : State) (v : Nat) : (s.setEpochCount v).pending = s.pending := rfl

/-! `setSurfaces` -/

@[simp] theorem State.setSurfaces_power (s : State) (v : Tbl 64 Surface) : (s.setSurfaces v).power = s.power := rfl
@[simp] theorem State.setSurfaces_pins (s : State) (v : Tbl 64 Surface) : (s.setSurfaces v).pins = s.pins := rfl
@[simp] theorem State.setSurfaces_unitNo (s : State) (v : Tbl 64 Surface) : (s.setSurfaces v).unitNo = s.unitNo := rfl
@[simp] theorem State.setSurfaces_ports (s : State) (v : Tbl 64 Surface) : (s.setSurfaces v).ports = s.ports := rfl
@[simp] theorem State.setSurfaces_sdt (s : State) (v : Tbl 64 Surface) : (s.setSurfaces v).sdt = s.sdt := rfl
@[simp] theorem State.setSurfaces_svt (s : State) (v : Tbl 64 Surface) : (s.setSurfaces v).svt = s.svt := rfl
@[simp] theorem State.setSurfaces_evalQueue (s : State) (v : Tbl 64 Surface) : (s.setSurfaces v).evalQueue = s.evalQueue := rfl
@[simp] theorem State.setSurfaces_zoneClose (s : State) (v : Tbl 64 Surface) : (s.setSurfaces v).zoneClose = s.zoneClose := rfl
@[simp] theorem State.setSurfaces_job (s : State) (v : Tbl 64 Surface) : (s.setSurfaces v).job = s.job := rfl
@[simp] theorem State.setSurfaces_zones (s : State) (v : Tbl 64 Surface) : (s.setSurfaces v).zones = s.zones := rfl
@[simp] theorem State.setSurfaces_epochCount (s : State) (v : Tbl 64 Surface) : (s.setSurfaces v).epochCount = s.epochCount := rfl
@[simp] theorem State.setSurfaces_surfaces (s : State) (v : Tbl 64 Surface) : (s.setSurfaces v).surfaces = v := rfl
@[simp] theorem State.setSurfaces_thr (s : State) (v : Tbl 64 Surface) : (s.setSurfaces v).thr = s.thr := rfl
@[simp] theorem State.setSurfaces_slots (s : State) (v : Tbl 64 Surface) : (s.setSurfaces v).slots = s.slots := rfl
@[simp] theorem State.setSurfaces_alarmLoss (s : State) (v : Tbl 64 Surface) : (s.setSurfaces v).alarmLoss = s.alarmLoss := rfl
@[simp] theorem State.setSurfaces_counters (s : State) (v : Tbl 64 Surface) : (s.setSurfaces v).counters = s.counters := rfl
@[simp] theorem State.setSurfaces_turn (s : State) (v : Tbl 64 Surface) : (s.setSurfaces v).turn = s.turn := rfl
@[simp] theorem State.setSurfaces_mgmt (s : State) (v : Tbl 64 Surface) : (s.setSurfaces v).mgmt = s.mgmt := rfl
@[simp] theorem State.setSurfaces_config (s : State) (v : Tbl 64 Surface) : (s.setSurfaces v).config = s.config := rfl
@[simp] theorem State.setSurfaces_condense (s : State) (v : Tbl 64 Surface) : (s.setSurfaces v).condense = s.condense := rfl
@[simp] theorem State.setSurfaces_due (s : State) (v : Tbl 64 Surface) : (s.setSurfaces v).due = s.due := rfl
@[simp] theorem State.setSurfaces_pending (s : State) (v : Tbl 64 Surface) : (s.setSurfaces v).pending = s.pending := rfl

/-! `setThr` -/

@[simp] theorem State.setThr_power (s : State) (v : Tbl 8 ThrSet) : (s.setThr v).power = s.power := rfl
@[simp] theorem State.setThr_pins (s : State) (v : Tbl 8 ThrSet) : (s.setThr v).pins = s.pins := rfl
@[simp] theorem State.setThr_unitNo (s : State) (v : Tbl 8 ThrSet) : (s.setThr v).unitNo = s.unitNo := rfl
@[simp] theorem State.setThr_ports (s : State) (v : Tbl 8 ThrSet) : (s.setThr v).ports = s.ports := rfl
@[simp] theorem State.setThr_sdt (s : State) (v : Tbl 8 ThrSet) : (s.setThr v).sdt = s.sdt := rfl
@[simp] theorem State.setThr_svt (s : State) (v : Tbl 8 ThrSet) : (s.setThr v).svt = s.svt := rfl
@[simp] theorem State.setThr_evalQueue (s : State) (v : Tbl 8 ThrSet) : (s.setThr v).evalQueue = s.evalQueue := rfl
@[simp] theorem State.setThr_zoneClose (s : State) (v : Tbl 8 ThrSet) : (s.setThr v).zoneClose = s.zoneClose := rfl
@[simp] theorem State.setThr_job (s : State) (v : Tbl 8 ThrSet) : (s.setThr v).job = s.job := rfl
@[simp] theorem State.setThr_zones (s : State) (v : Tbl 8 ThrSet) : (s.setThr v).zones = s.zones := rfl
@[simp] theorem State.setThr_epochCount (s : State) (v : Tbl 8 ThrSet) : (s.setThr v).epochCount = s.epochCount := rfl
@[simp] theorem State.setThr_surfaces (s : State) (v : Tbl 8 ThrSet) : (s.setThr v).surfaces = s.surfaces := rfl
@[simp] theorem State.setThr_thr (s : State) (v : Tbl 8 ThrSet) : (s.setThr v).thr = v := rfl
@[simp] theorem State.setThr_slots (s : State) (v : Tbl 8 ThrSet) : (s.setThr v).slots = s.slots := rfl
@[simp] theorem State.setThr_alarmLoss (s : State) (v : Tbl 8 ThrSet) : (s.setThr v).alarmLoss = s.alarmLoss := rfl
@[simp] theorem State.setThr_counters (s : State) (v : Tbl 8 ThrSet) : (s.setThr v).counters = s.counters := rfl
@[simp] theorem State.setThr_turn (s : State) (v : Tbl 8 ThrSet) : (s.setThr v).turn = s.turn := rfl
@[simp] theorem State.setThr_mgmt (s : State) (v : Tbl 8 ThrSet) : (s.setThr v).mgmt = s.mgmt := rfl
@[simp] theorem State.setThr_config (s : State) (v : Tbl 8 ThrSet) : (s.setThr v).config = s.config := rfl
@[simp] theorem State.setThr_condense (s : State) (v : Tbl 8 ThrSet) : (s.setThr v).condense = s.condense := rfl
@[simp] theorem State.setThr_due (s : State) (v : Tbl 8 ThrSet) : (s.setThr v).due = s.due := rfl
@[simp] theorem State.setThr_pending (s : State) (v : Tbl 8 ThrSet) : (s.setThr v).pending = s.pending := rfl

/-! `setSlots` -/

@[simp] theorem State.setSlots_power (s : State) (v : Tbl 16 Slot) : (s.setSlots v).power = s.power := rfl
@[simp] theorem State.setSlots_pins (s : State) (v : Tbl 16 Slot) : (s.setSlots v).pins = s.pins := rfl
@[simp] theorem State.setSlots_unitNo (s : State) (v : Tbl 16 Slot) : (s.setSlots v).unitNo = s.unitNo := rfl
@[simp] theorem State.setSlots_ports (s : State) (v : Tbl 16 Slot) : (s.setSlots v).ports = s.ports := rfl
@[simp] theorem State.setSlots_sdt (s : State) (v : Tbl 16 Slot) : (s.setSlots v).sdt = s.sdt := rfl
@[simp] theorem State.setSlots_svt (s : State) (v : Tbl 16 Slot) : (s.setSlots v).svt = s.svt := rfl
@[simp] theorem State.setSlots_evalQueue (s : State) (v : Tbl 16 Slot) : (s.setSlots v).evalQueue = s.evalQueue := rfl
@[simp] theorem State.setSlots_zoneClose (s : State) (v : Tbl 16 Slot) : (s.setSlots v).zoneClose = s.zoneClose := rfl
@[simp] theorem State.setSlots_job (s : State) (v : Tbl 16 Slot) : (s.setSlots v).job = s.job := rfl
@[simp] theorem State.setSlots_zones (s : State) (v : Tbl 16 Slot) : (s.setSlots v).zones = s.zones := rfl
@[simp] theorem State.setSlots_epochCount (s : State) (v : Tbl 16 Slot) : (s.setSlots v).epochCount = s.epochCount := rfl
@[simp] theorem State.setSlots_surfaces (s : State) (v : Tbl 16 Slot) : (s.setSlots v).surfaces = s.surfaces := rfl
@[simp] theorem State.setSlots_thr (s : State) (v : Tbl 16 Slot) : (s.setSlots v).thr = s.thr := rfl
@[simp] theorem State.setSlots_slots (s : State) (v : Tbl 16 Slot) : (s.setSlots v).slots = v := rfl
@[simp] theorem State.setSlots_alarmLoss (s : State) (v : Tbl 16 Slot) : (s.setSlots v).alarmLoss = s.alarmLoss := rfl
@[simp] theorem State.setSlots_counters (s : State) (v : Tbl 16 Slot) : (s.setSlots v).counters = s.counters := rfl
@[simp] theorem State.setSlots_turn (s : State) (v : Tbl 16 Slot) : (s.setSlots v).turn = s.turn := rfl
@[simp] theorem State.setSlots_mgmt (s : State) (v : Tbl 16 Slot) : (s.setSlots v).mgmt = s.mgmt := rfl
@[simp] theorem State.setSlots_config (s : State) (v : Tbl 16 Slot) : (s.setSlots v).config = s.config := rfl
@[simp] theorem State.setSlots_condense (s : State) (v : Tbl 16 Slot) : (s.setSlots v).condense = s.condense := rfl
@[simp] theorem State.setSlots_due (s : State) (v : Tbl 16 Slot) : (s.setSlots v).due = s.due := rfl
@[simp] theorem State.setSlots_pending (s : State) (v : Tbl 16 Slot) : (s.setSlots v).pending = s.pending := rfl

/-! `setAlarmLoss` -/

@[simp] theorem State.setAlarmLoss_power (s : State) (v : Bool) : (s.setAlarmLoss v).power = s.power := rfl
@[simp] theorem State.setAlarmLoss_pins (s : State) (v : Bool) : (s.setAlarmLoss v).pins = s.pins := rfl
@[simp] theorem State.setAlarmLoss_unitNo (s : State) (v : Bool) : (s.setAlarmLoss v).unitNo = s.unitNo := rfl
@[simp] theorem State.setAlarmLoss_ports (s : State) (v : Bool) : (s.setAlarmLoss v).ports = s.ports := rfl
@[simp] theorem State.setAlarmLoss_sdt (s : State) (v : Bool) : (s.setAlarmLoss v).sdt = s.sdt := rfl
@[simp] theorem State.setAlarmLoss_svt (s : State) (v : Bool) : (s.setAlarmLoss v).svt = s.svt := rfl
@[simp] theorem State.setAlarmLoss_evalQueue (s : State) (v : Bool) : (s.setAlarmLoss v).evalQueue = s.evalQueue := rfl
@[simp] theorem State.setAlarmLoss_zoneClose (s : State) (v : Bool) : (s.setAlarmLoss v).zoneClose = s.zoneClose := rfl
@[simp] theorem State.setAlarmLoss_job (s : State) (v : Bool) : (s.setAlarmLoss v).job = s.job := rfl
@[simp] theorem State.setAlarmLoss_zones (s : State) (v : Bool) : (s.setAlarmLoss v).zones = s.zones := rfl
@[simp] theorem State.setAlarmLoss_epochCount (s : State) (v : Bool) : (s.setAlarmLoss v).epochCount = s.epochCount := rfl
@[simp] theorem State.setAlarmLoss_surfaces (s : State) (v : Bool) : (s.setAlarmLoss v).surfaces = s.surfaces := rfl
@[simp] theorem State.setAlarmLoss_thr (s : State) (v : Bool) : (s.setAlarmLoss v).thr = s.thr := rfl
@[simp] theorem State.setAlarmLoss_slots (s : State) (v : Bool) : (s.setAlarmLoss v).slots = s.slots := rfl
@[simp] theorem State.setAlarmLoss_alarmLoss (s : State) (v : Bool) : (s.setAlarmLoss v).alarmLoss = v := rfl
@[simp] theorem State.setAlarmLoss_counters (s : State) (v : Bool) : (s.setAlarmLoss v).counters = s.counters := rfl
@[simp] theorem State.setAlarmLoss_turn (s : State) (v : Bool) : (s.setAlarmLoss v).turn = s.turn := rfl
@[simp] theorem State.setAlarmLoss_mgmt (s : State) (v : Bool) : (s.setAlarmLoss v).mgmt = s.mgmt := rfl
@[simp] theorem State.setAlarmLoss_config (s : State) (v : Bool) : (s.setAlarmLoss v).config = s.config := rfl
@[simp] theorem State.setAlarmLoss_condense (s : State) (v : Bool) : (s.setAlarmLoss v).condense = s.condense := rfl
@[simp] theorem State.setAlarmLoss_due (s : State) (v : Bool) : (s.setAlarmLoss v).due = s.due := rfl
@[simp] theorem State.setAlarmLoss_pending (s : State) (v : Bool) : (s.setAlarmLoss v).pending = s.pending := rfl

/-! `setCounters` -/

@[simp] theorem State.setCounters_power (s : State) (v : UnitCounters) : (s.setCounters v).power = s.power := rfl
@[simp] theorem State.setCounters_pins (s : State) (v : UnitCounters) : (s.setCounters v).pins = s.pins := rfl
@[simp] theorem State.setCounters_unitNo (s : State) (v : UnitCounters) : (s.setCounters v).unitNo = s.unitNo := rfl
@[simp] theorem State.setCounters_ports (s : State) (v : UnitCounters) : (s.setCounters v).ports = s.ports := rfl
@[simp] theorem State.setCounters_sdt (s : State) (v : UnitCounters) : (s.setCounters v).sdt = s.sdt := rfl
@[simp] theorem State.setCounters_svt (s : State) (v : UnitCounters) : (s.setCounters v).svt = s.svt := rfl
@[simp] theorem State.setCounters_evalQueue (s : State) (v : UnitCounters) : (s.setCounters v).evalQueue = s.evalQueue := rfl
@[simp] theorem State.setCounters_zoneClose (s : State) (v : UnitCounters) : (s.setCounters v).zoneClose = s.zoneClose := rfl
@[simp] theorem State.setCounters_job (s : State) (v : UnitCounters) : (s.setCounters v).job = s.job := rfl
@[simp] theorem State.setCounters_zones (s : State) (v : UnitCounters) : (s.setCounters v).zones = s.zones := rfl
@[simp] theorem State.setCounters_epochCount (s : State) (v : UnitCounters) : (s.setCounters v).epochCount = s.epochCount := rfl
@[simp] theorem State.setCounters_surfaces (s : State) (v : UnitCounters) : (s.setCounters v).surfaces = s.surfaces := rfl
@[simp] theorem State.setCounters_thr (s : State) (v : UnitCounters) : (s.setCounters v).thr = s.thr := rfl
@[simp] theorem State.setCounters_slots (s : State) (v : UnitCounters) : (s.setCounters v).slots = s.slots := rfl
@[simp] theorem State.setCounters_alarmLoss (s : State) (v : UnitCounters) : (s.setCounters v).alarmLoss = s.alarmLoss := rfl
@[simp] theorem State.setCounters_counters (s : State) (v : UnitCounters) : (s.setCounters v).counters = v := rfl
@[simp] theorem State.setCounters_turn (s : State) (v : UnitCounters) : (s.setCounters v).turn = s.turn := rfl
@[simp] theorem State.setCounters_mgmt (s : State) (v : UnitCounters) : (s.setCounters v).mgmt = s.mgmt := rfl
@[simp] theorem State.setCounters_config (s : State) (v : UnitCounters) : (s.setCounters v).config = s.config := rfl
@[simp] theorem State.setCounters_condense (s : State) (v : UnitCounters) : (s.setCounters v).condense = s.condense := rfl
@[simp] theorem State.setCounters_due (s : State) (v : UnitCounters) : (s.setCounters v).due = s.due := rfl
@[simp] theorem State.setCounters_pending (s : State) (v : UnitCounters) : (s.setCounters v).pending = s.pending := rfl

/-! `setTurn` -/

@[simp] theorem State.setTurn_power (s : State) (v : Turn) : (s.setTurn v).power = s.power := rfl
@[simp] theorem State.setTurn_pins (s : State) (v : Turn) : (s.setTurn v).pins = s.pins := rfl
@[simp] theorem State.setTurn_unitNo (s : State) (v : Turn) : (s.setTurn v).unitNo = s.unitNo := rfl
@[simp] theorem State.setTurn_ports (s : State) (v : Turn) : (s.setTurn v).ports = s.ports := rfl
@[simp] theorem State.setTurn_sdt (s : State) (v : Turn) : (s.setTurn v).sdt = s.sdt := rfl
@[simp] theorem State.setTurn_svt (s : State) (v : Turn) : (s.setTurn v).svt = s.svt := rfl
@[simp] theorem State.setTurn_evalQueue (s : State) (v : Turn) : (s.setTurn v).evalQueue = s.evalQueue := rfl
@[simp] theorem State.setTurn_zoneClose (s : State) (v : Turn) : (s.setTurn v).zoneClose = s.zoneClose := rfl
@[simp] theorem State.setTurn_job (s : State) (v : Turn) : (s.setTurn v).job = s.job := rfl
@[simp] theorem State.setTurn_zones (s : State) (v : Turn) : (s.setTurn v).zones = s.zones := rfl
@[simp] theorem State.setTurn_epochCount (s : State) (v : Turn) : (s.setTurn v).epochCount = s.epochCount := rfl
@[simp] theorem State.setTurn_surfaces (s : State) (v : Turn) : (s.setTurn v).surfaces = s.surfaces := rfl
@[simp] theorem State.setTurn_thr (s : State) (v : Turn) : (s.setTurn v).thr = s.thr := rfl
@[simp] theorem State.setTurn_slots (s : State) (v : Turn) : (s.setTurn v).slots = s.slots := rfl
@[simp] theorem State.setTurn_alarmLoss (s : State) (v : Turn) : (s.setTurn v).alarmLoss = s.alarmLoss := rfl
@[simp] theorem State.setTurn_counters (s : State) (v : Turn) : (s.setTurn v).counters = s.counters := rfl
@[simp] theorem State.setTurn_turn (s : State) (v : Turn) : (s.setTurn v).turn = v := rfl
@[simp] theorem State.setTurn_mgmt (s : State) (v : Turn) : (s.setTurn v).mgmt = s.mgmt := rfl
@[simp] theorem State.setTurn_config (s : State) (v : Turn) : (s.setTurn v).config = s.config := rfl
@[simp] theorem State.setTurn_condense (s : State) (v : Turn) : (s.setTurn v).condense = s.condense := rfl
@[simp] theorem State.setTurn_due (s : State) (v : Turn) : (s.setTurn v).due = s.due := rfl
@[simp] theorem State.setTurn_pending (s : State) (v : Turn) : (s.setTurn v).pending = s.pending := rfl

/-! `setMgmt` -/

@[simp] theorem State.setMgmt_power (s : State) (v : Engine) : (s.setMgmt v).power = s.power := rfl
@[simp] theorem State.setMgmt_pins (s : State) (v : Engine) : (s.setMgmt v).pins = s.pins := rfl
@[simp] theorem State.setMgmt_unitNo (s : State) (v : Engine) : (s.setMgmt v).unitNo = s.unitNo := rfl
@[simp] theorem State.setMgmt_ports (s : State) (v : Engine) : (s.setMgmt v).ports = s.ports := rfl
@[simp] theorem State.setMgmt_sdt (s : State) (v : Engine) : (s.setMgmt v).sdt = s.sdt := rfl
@[simp] theorem State.setMgmt_svt (s : State) (v : Engine) : (s.setMgmt v).svt = s.svt := rfl
@[simp] theorem State.setMgmt_evalQueue (s : State) (v : Engine) : (s.setMgmt v).evalQueue = s.evalQueue := rfl
@[simp] theorem State.setMgmt_zoneClose (s : State) (v : Engine) : (s.setMgmt v).zoneClose = s.zoneClose := rfl
@[simp] theorem State.setMgmt_job (s : State) (v : Engine) : (s.setMgmt v).job = s.job := rfl
@[simp] theorem State.setMgmt_zones (s : State) (v : Engine) : (s.setMgmt v).zones = s.zones := rfl
@[simp] theorem State.setMgmt_epochCount (s : State) (v : Engine) : (s.setMgmt v).epochCount = s.epochCount := rfl
@[simp] theorem State.setMgmt_surfaces (s : State) (v : Engine) : (s.setMgmt v).surfaces = s.surfaces := rfl
@[simp] theorem State.setMgmt_thr (s : State) (v : Engine) : (s.setMgmt v).thr = s.thr := rfl
@[simp] theorem State.setMgmt_slots (s : State) (v : Engine) : (s.setMgmt v).slots = s.slots := rfl
@[simp] theorem State.setMgmt_alarmLoss (s : State) (v : Engine) : (s.setMgmt v).alarmLoss = s.alarmLoss := rfl
@[simp] theorem State.setMgmt_counters (s : State) (v : Engine) : (s.setMgmt v).counters = s.counters := rfl
@[simp] theorem State.setMgmt_turn (s : State) (v : Engine) : (s.setMgmt v).turn = s.turn := rfl
@[simp] theorem State.setMgmt_mgmt (s : State) (v : Engine) : (s.setMgmt v).mgmt = v := rfl
@[simp] theorem State.setMgmt_config (s : State) (v : Engine) : (s.setMgmt v).config = s.config := rfl
@[simp] theorem State.setMgmt_condense (s : State) (v : Engine) : (s.setMgmt v).condense = s.condense := rfl
@[simp] theorem State.setMgmt_due (s : State) (v : Engine) : (s.setMgmt v).due = s.due := rfl
@[simp] theorem State.setMgmt_pending (s : State) (v : Engine) : (s.setMgmt v).pending = s.pending := rfl

/-! `setConfig` -/

@[simp] theorem State.setConfig_power (s : State) (v : UnitConfig) : (s.setConfig v).power = s.power := rfl
@[simp] theorem State.setConfig_pins (s : State) (v : UnitConfig) : (s.setConfig v).pins = s.pins := rfl
@[simp] theorem State.setConfig_unitNo (s : State) (v : UnitConfig) : (s.setConfig v).unitNo = s.unitNo := rfl
@[simp] theorem State.setConfig_ports (s : State) (v : UnitConfig) : (s.setConfig v).ports = s.ports := rfl
@[simp] theorem State.setConfig_sdt (s : State) (v : UnitConfig) : (s.setConfig v).sdt = s.sdt := rfl
@[simp] theorem State.setConfig_svt (s : State) (v : UnitConfig) : (s.setConfig v).svt = s.svt := rfl
@[simp] theorem State.setConfig_evalQueue (s : State) (v : UnitConfig) : (s.setConfig v).evalQueue = s.evalQueue := rfl
@[simp] theorem State.setConfig_zoneClose (s : State) (v : UnitConfig) : (s.setConfig v).zoneClose = s.zoneClose := rfl
@[simp] theorem State.setConfig_job (s : State) (v : UnitConfig) : (s.setConfig v).job = s.job := rfl
@[simp] theorem State.setConfig_zones (s : State) (v : UnitConfig) : (s.setConfig v).zones = s.zones := rfl
@[simp] theorem State.setConfig_epochCount (s : State) (v : UnitConfig) : (s.setConfig v).epochCount = s.epochCount := rfl
@[simp] theorem State.setConfig_surfaces (s : State) (v : UnitConfig) : (s.setConfig v).surfaces = s.surfaces := rfl
@[simp] theorem State.setConfig_thr (s : State) (v : UnitConfig) : (s.setConfig v).thr = s.thr := rfl
@[simp] theorem State.setConfig_slots (s : State) (v : UnitConfig) : (s.setConfig v).slots = s.slots := rfl
@[simp] theorem State.setConfig_alarmLoss (s : State) (v : UnitConfig) : (s.setConfig v).alarmLoss = s.alarmLoss := rfl
@[simp] theorem State.setConfig_counters (s : State) (v : UnitConfig) : (s.setConfig v).counters = s.counters := rfl
@[simp] theorem State.setConfig_turn (s : State) (v : UnitConfig) : (s.setConfig v).turn = s.turn := rfl
@[simp] theorem State.setConfig_mgmt (s : State) (v : UnitConfig) : (s.setConfig v).mgmt = s.mgmt := rfl
@[simp] theorem State.setConfig_config (s : State) (v : UnitConfig) : (s.setConfig v).config = v := rfl
@[simp] theorem State.setConfig_condense (s : State) (v : UnitConfig) : (s.setConfig v).condense = s.condense := rfl
@[simp] theorem State.setConfig_due (s : State) (v : UnitConfig) : (s.setConfig v).due = s.due := rfl
@[simp] theorem State.setConfig_pending (s : State) (v : UnitConfig) : (s.setConfig v).pending = s.pending := rfl

/-! `setCondense` -/

@[simp] theorem State.setCondense_power (s : State) (v : Bool) : (s.setCondense v).power = s.power := rfl
@[simp] theorem State.setCondense_pins (s : State) (v : Bool) : (s.setCondense v).pins = s.pins := rfl
@[simp] theorem State.setCondense_unitNo (s : State) (v : Bool) : (s.setCondense v).unitNo = s.unitNo := rfl
@[simp] theorem State.setCondense_ports (s : State) (v : Bool) : (s.setCondense v).ports = s.ports := rfl
@[simp] theorem State.setCondense_sdt (s : State) (v : Bool) : (s.setCondense v).sdt = s.sdt := rfl
@[simp] theorem State.setCondense_svt (s : State) (v : Bool) : (s.setCondense v).svt = s.svt := rfl
@[simp] theorem State.setCondense_evalQueue (s : State) (v : Bool) : (s.setCondense v).evalQueue = s.evalQueue := rfl
@[simp] theorem State.setCondense_zoneClose (s : State) (v : Bool) : (s.setCondense v).zoneClose = s.zoneClose := rfl
@[simp] theorem State.setCondense_job (s : State) (v : Bool) : (s.setCondense v).job = s.job := rfl
@[simp] theorem State.setCondense_zones (s : State) (v : Bool) : (s.setCondense v).zones = s.zones := rfl
@[simp] theorem State.setCondense_epochCount (s : State) (v : Bool) : (s.setCondense v).epochCount = s.epochCount := rfl
@[simp] theorem State.setCondense_surfaces (s : State) (v : Bool) : (s.setCondense v).surfaces = s.surfaces := rfl
@[simp] theorem State.setCondense_thr (s : State) (v : Bool) : (s.setCondense v).thr = s.thr := rfl
@[simp] theorem State.setCondense_slots (s : State) (v : Bool) : (s.setCondense v).slots = s.slots := rfl
@[simp] theorem State.setCondense_alarmLoss (s : State) (v : Bool) : (s.setCondense v).alarmLoss = s.alarmLoss := rfl
@[simp] theorem State.setCondense_counters (s : State) (v : Bool) : (s.setCondense v).counters = s.counters := rfl
@[simp] theorem State.setCondense_turn (s : State) (v : Bool) : (s.setCondense v).turn = s.turn := rfl
@[simp] theorem State.setCondense_mgmt (s : State) (v : Bool) : (s.setCondense v).mgmt = s.mgmt := rfl
@[simp] theorem State.setCondense_config (s : State) (v : Bool) : (s.setCondense v).config = s.config := rfl
@[simp] theorem State.setCondense_condense (s : State) (v : Bool) : (s.setCondense v).condense = v := rfl
@[simp] theorem State.setCondense_due (s : State) (v : Bool) : (s.setCondense v).due = s.due := rfl
@[simp] theorem State.setCondense_pending (s : State) (v : Bool) : (s.setCondense v).pending = s.pending := rfl

/-! `setDue` -/

@[simp] theorem State.setDue_power (s : State) (v : Due) : (s.setDue v).power = s.power := rfl
@[simp] theorem State.setDue_pins (s : State) (v : Due) : (s.setDue v).pins = s.pins := rfl
@[simp] theorem State.setDue_unitNo (s : State) (v : Due) : (s.setDue v).unitNo = s.unitNo := rfl
@[simp] theorem State.setDue_ports (s : State) (v : Due) : (s.setDue v).ports = s.ports := rfl
@[simp] theorem State.setDue_sdt (s : State) (v : Due) : (s.setDue v).sdt = s.sdt := rfl
@[simp] theorem State.setDue_svt (s : State) (v : Due) : (s.setDue v).svt = s.svt := rfl
@[simp] theorem State.setDue_evalQueue (s : State) (v : Due) : (s.setDue v).evalQueue = s.evalQueue := rfl
@[simp] theorem State.setDue_zoneClose (s : State) (v : Due) : (s.setDue v).zoneClose = s.zoneClose := rfl
@[simp] theorem State.setDue_job (s : State) (v : Due) : (s.setDue v).job = s.job := rfl
@[simp] theorem State.setDue_zones (s : State) (v : Due) : (s.setDue v).zones = s.zones := rfl
@[simp] theorem State.setDue_epochCount (s : State) (v : Due) : (s.setDue v).epochCount = s.epochCount := rfl
@[simp] theorem State.setDue_surfaces (s : State) (v : Due) : (s.setDue v).surfaces = s.surfaces := rfl
@[simp] theorem State.setDue_thr (s : State) (v : Due) : (s.setDue v).thr = s.thr := rfl
@[simp] theorem State.setDue_slots (s : State) (v : Due) : (s.setDue v).slots = s.slots := rfl
@[simp] theorem State.setDue_alarmLoss (s : State) (v : Due) : (s.setDue v).alarmLoss = s.alarmLoss := rfl
@[simp] theorem State.setDue_counters (s : State) (v : Due) : (s.setDue v).counters = s.counters := rfl
@[simp] theorem State.setDue_turn (s : State) (v : Due) : (s.setDue v).turn = s.turn := rfl
@[simp] theorem State.setDue_mgmt (s : State) (v : Due) : (s.setDue v).mgmt = s.mgmt := rfl
@[simp] theorem State.setDue_config (s : State) (v : Due) : (s.setDue v).config = s.config := rfl
@[simp] theorem State.setDue_condense (s : State) (v : Due) : (s.setDue v).condense = s.condense := rfl
@[simp] theorem State.setDue_due (s : State) (v : Due) : (s.setDue v).due = v := rfl
@[simp] theorem State.setDue_pending (s : State) (v : Due) : (s.setDue v).pending = s.pending := rfl

/-! `setPending` -/

@[simp] theorem State.setPending_power (s : State) (v : List Instr) : (s.setPending v).power = s.power := rfl
@[simp] theorem State.setPending_pins (s : State) (v : List Instr) : (s.setPending v).pins = s.pins := rfl
@[simp] theorem State.setPending_unitNo (s : State) (v : List Instr) : (s.setPending v).unitNo = s.unitNo := rfl
@[simp] theorem State.setPending_ports (s : State) (v : List Instr) : (s.setPending v).ports = s.ports := rfl
@[simp] theorem State.setPending_sdt (s : State) (v : List Instr) : (s.setPending v).sdt = s.sdt := rfl
@[simp] theorem State.setPending_svt (s : State) (v : List Instr) : (s.setPending v).svt = s.svt := rfl
@[simp] theorem State.setPending_evalQueue (s : State) (v : List Instr) : (s.setPending v).evalQueue = s.evalQueue := rfl
@[simp] theorem State.setPending_zoneClose (s : State) (v : List Instr) : (s.setPending v).zoneClose = s.zoneClose := rfl
@[simp] theorem State.setPending_job (s : State) (v : List Instr) : (s.setPending v).job = s.job := rfl
@[simp] theorem State.setPending_zones (s : State) (v : List Instr) : (s.setPending v).zones = s.zones := rfl
@[simp] theorem State.setPending_epochCount (s : State) (v : List Instr) : (s.setPending v).epochCount = s.epochCount := rfl
@[simp] theorem State.setPending_surfaces (s : State) (v : List Instr) : (s.setPending v).surfaces = s.surfaces := rfl
@[simp] theorem State.setPending_thr (s : State) (v : List Instr) : (s.setPending v).thr = s.thr := rfl
@[simp] theorem State.setPending_slots (s : State) (v : List Instr) : (s.setPending v).slots = s.slots := rfl
@[simp] theorem State.setPending_alarmLoss (s : State) (v : List Instr) : (s.setPending v).alarmLoss = s.alarmLoss := rfl
@[simp] theorem State.setPending_counters (s : State) (v : List Instr) : (s.setPending v).counters = s.counters := rfl
@[simp] theorem State.setPending_turn (s : State) (v : List Instr) : (s.setPending v).turn = s.turn := rfl
@[simp] theorem State.setPending_mgmt (s : State) (v : List Instr) : (s.setPending v).mgmt = s.mgmt := rfl
@[simp] theorem State.setPending_config (s : State) (v : List Instr) : (s.setPending v).config = s.config := rfl
@[simp] theorem State.setPending_condense (s : State) (v : List Instr) : (s.setPending v).condense = s.condense := rfl
@[simp] theorem State.setPending_due (s : State) (v : List Instr) : (s.setPending v).due = s.due := rfl
@[simp] theorem State.setPending_pending (s : State) (v : List Instr) : (s.setPending v).pending = v := rfl

end Machine

end Sys2Proof
end

