-- ==== Sys2Proof/Laws/Frames.lean ====
section
/-! SUPPORT. What each shared operation can change: the calculus of `State.Changes`, the accessors after the
setters, and one footprint lemma per operation. -/

namespace Sys2Proof.Machine

/-! ### The calculus -/

theorem Field.Same.rfl' (s : State) (f : Field) : f.Same s s := by cases f <;> rfl

theorem Field.Same.trans {s t u : State} {f : Field} (h : f.Same s t) (k : f.Same t u) : f.Same s u := by
  cases f <;> exact Eq.trans k h

theorem State.Changes.refl (s : State) (fs : List Field) : s.Changes s fs := fun f _ => Field.Same.rfl' s f

theorem State.Changes.trans {s t u : State} {fs : List Field} (h : s.Changes t fs)
    (k : t.Changes u fs) : s.Changes u fs := fun f hf => (h f hf).trans (k f hf)

theorem State.Changes.mono {s t : State} {fs gs : List Field} (h : s.Changes t fs)
    (k : ∀ f, f ∈ fs → f ∈ gs) : s.Changes t gs := fun f hf => h f fun m => hf (k f m)

/-- Two footprints in a row, each inside the wanted one. -/
theorem State.Changes.step {s t u : State} {fs gs hs : List Field} (h : s.Changes t fs)
    (k : t.Changes u gs) (hf : ∀ f, f ∈ fs → f ∈ hs) (hg : ∀ f, f ∈ gs → f ∈ hs) : s.Changes u hs :=
  (h.mono hf).trans (k.mono hg)

/-- A fold changes what each of its steps changes. -/
theorem State.Changes.foldl {α : Type} {fs : List Field} {f : State → α → State}
    (h : ∀ (s : State) (a : α), s.Changes (f s a) fs) (l : List α) (s : State) : s.Changes (l.foldl f s) fs := by
  induction l generalizing s with
  | nil => exact .refl s fs
  | cons a l ih => exact (h s a).trans (ih (f s a))

/-- A field outside the footprint is as it was. -/
theorem State.Changes.same {s t : State} {fs : List Field} (h : s.Changes t fs) (f : Field)
    (hf : f ∉ fs) : f.Same s t := h f hf

/-! ### Setters -/

theorem State.setPower_changes (s : State) (v : Power) : s.Changes (s.setPower v) [.power] := by
  intro f hf; cases f <;> first | rfl | exact absurd (by decide) hf
theorem State.setPins_changes (s : State) (v : Pins) : s.Changes (s.setPins v) [.pins] := by
  intro f hf; cases f <;> first | rfl | exact absurd (by decide) hf
theorem State.setPorts_changes (s : State) (v : Tbl 5 PortRec) : s.Changes (s.setPorts v) [.ports] := by
  intro f hf; cases f <;> first | rfl | exact absurd (by decide) hf
theorem State.setPort_changes (s : State) (p : Port) (v : PortRec) : s.Changes (s.setPort p v) [.ports] :=
  s.setPorts_changes _
theorem State.updPort_changes (s : State) (p : Port) (f : PortRec → PortRec) :
    s.Changes (s.updPort p f) [.ports] := s.setPorts_changes _
theorem State.countRouter_changes (s : State) (p : Port) (f : RouterCounters → RouterCounters) :
    s.Changes (s.countRouter p f) [.ports] := s.setPorts_changes _
theorem State.setSdt_changes (s : State) (v : Tbl 256 Descriptor) : s.Changes (s.setSdt v) [.sdt] := by
  intro f hf; cases f <;> first | rfl | exact absurd (by decide) hf
theorem State.setDesc_changes (s : State) (sel : Selector) (v : Descriptor) :
    s.Changes (s.setDesc sel v) [.sdt] := s.setSdt_changes _
theorem State.updDesc_changes (s : State) (sel : Selector) (f : Descriptor → Descriptor) :
    s.Changes (s.updDesc sel f) [.sdt] := s.setSdt_changes _
theorem State.setSvt_changes (s : State) (v : Svt) : s.Changes (s.setSvt v) [.svt] := by
  intro f hf; cases f <;> first | rfl | exact absurd (by decide) hf
theorem State.setEvalQueue_changes (s : State) (v : List SampleJob) :
    s.Changes (s.setEvalQueue v) [.evalQueue] := by
  intro f hf; cases f <;> first | rfl | exact absurd (by decide) hf
theorem State.setZoneClose_changes (s : State) (v : Tbl 32 (Option Snapshot)) :
    s.Changes (s.setZoneClose v) [.zoneClose] := by
  intro f hf; cases f <;> first | rfl | exact absurd (by decide) hf
theorem State.setJob_changes (s : State) (v : Option Job) : s.Changes (s.setJob v) [.job] := by
  intro f hf; cases f <;> first | rfl | exact absurd (by decide) hf
theorem State.setZones_changes (s : State) (v : Tbl 32 Zone) : s.Changes (s.setZones v) [.zones] := by
  intro f hf; cases f <;> first | rfl | exact absurd (by decide) hf
theorem State.setZone_changes (s : State) (z : Fin 32) (v : Zone) : s.Changes (s.setZone z v) [.zones] :=
  s.setZones_changes _
theorem State.updZone_changes (s : State) (z : Fin 32) (f : Zone → Zone) :
    s.Changes (s.updZone z f) [.zones] := s.setZones_changes _
theorem State.setEpochCount_changes (s : State) (v : Nat) :
    s.Changes (s.setEpochCount v) [.epochCount] := by
  intro f hf; cases f <;> first | rfl | exact absurd (by decide) hf
theorem State.setSurfaces_changes (s : State) (v : Tbl 64 Surface) :
    s.Changes (s.setSurfaces v) [.surfaces] := by
  intro f hf; cases f <;> first | rfl | exact absurd (by decide) hf
theorem State.setSurface_changes (s : State) (i : Fin 64) (v : Surface) :
    s.Changes (s.setSurface i v) [.surfaces] := s.setSurfaces_changes _
theorem State.setThr_changes (s : State) (v : Tbl 8 ThrSet) : s.Changes (s.setThr v) [.thr] := by
  intro f hf; cases f <;> first | rfl | exact absurd (by decide) hf
theorem State.setSlots_changes (s : State) (v : Tbl 16 Slot) : s.Changes (s.setSlots v) [.slots] := by
  intro f hf; cases f <;> first | rfl | exact absurd (by decide) hf
theorem State.setSlot_changes (s : State) (i : Fin 16) (v : Slot) : s.Changes (s.setSlot i v) [.slots] :=
  s.setSlots_changes _
theorem State.setAlarmLoss_changes (s : State) (v : Bool) : s.Changes (s.setAlarmLoss v) [.alarmLoss] := by
  intro f hf; cases f <;> first | rfl | exact absurd (by decide) hf
theorem State.setCounters_changes (s : State) (v : UnitCounters) :
    s.Changes (s.setCounters v) [.counters] := by
  intro f hf; cases f <;> first | rfl | exact absurd (by decide) hf
theorem State.count_changes (s : State) (f : UnitCounters → UnitCounters) :
    s.Changes (s.count f) [.counters] := s.setCounters_changes _
theorem State.setTurn_changes (s : State) (v : Turn) : s.Changes (s.setTurn v) [.turn] := by
  intro f hf; cases f <;> first | rfl | exact absurd (by decide) hf
theorem State.updTurn_changes (s : State) (f : Turn → Turn) : s.Changes (s.updTurn f) [.turn] :=
  s.setTurn_changes _
theorem State.setMgmt_changes (s : State) (v : Engine) : s.Changes (s.setMgmt v) [.mgmt] := by
  intro f hf; cases f <;> first | rfl | exact absurd (by decide) hf
theorem State.setConfig_changes (s : State) (v : UnitConfig) : s.Changes (s.setConfig v) [.config] := by
  intro f hf; cases f <;> first | rfl | exact absurd (by decide) hf
theorem State.setCondense_changes (s : State) (v : Bool) : s.Changes (s.setCondense v) [.condense] := by
  intro f hf; cases f <;> first | rfl | exact absurd (by decide) hf
theorem State.setDue_changes (s : State) (v : Due) : s.Changes (s.setDue v) [.due] := by
  intro f hf; cases f <;> first | rfl | exact absurd (by decide) hf

/-! ### Accessors after setters -/

theorem portIdx_inj {p q : Port} (h : portIdx p = portIdx q) : p = q := by
  revert h; rcases p with (_ | _ | _ | _) | _ <;> rcases q with (_ | _ | _ | _) | _ <;> decide

theorem portOfIdx_portIdx (p : Port) : portOfIdx (portIdx p) = p := by
  rcases p with (_ | _ | _ | _) | _ <;> rfl

@[simp] theorem State.setPort_port (s : State) (p : Port) (r : PortRec) : (s.setPort p r).port p = r := by
  simp [State.setPort, State.port]

theorem State.setPort_port_ne (s : State) {p q : Port} (r : PortRec) (h : q ≠ p) :
    (s.setPort p r).port q = s.port q := by
  simp only [State.setPort, State.port, State.setPorts_ports]
  exact Tbl.get_set_ne _ _ fun e => h (portIdx_inj e).symm

@[simp] theorem State.setPort_self (s : State) (p : Port) : s.setPort p (s.port p) = s := by
  simp [State.setPort, State.port, State.setPorts]

@[simp] theorem State.setPort_setPort (s : State) (p : Port) (a b : PortRec) :
    (s.setPort p a).setPort p b = s.setPort p b := by
  simp only [State.setPort, State.setPorts]
  congr 1
  apply Tbl.ext_get
  intro i
  simp only [Tbl.get_set]
  split <;> rfl

@[simp] theorem State.setDesc_desc (s : State) (sel : Selector) (d : Descriptor) :
    (s.setDesc sel d).desc sel = d := by
  simp [State.setDesc, State.desc]

theorem State.setDesc_desc_ne (s : State) {sel x : Selector} (d : Descriptor) (h : x ≠ sel) :
    (s.setDesc sel d).desc x = s.desc x := by
  simp only [State.setDesc, State.desc, State.setSdt_sdt]
  exact Tbl.get_set_ne _ _ fun e => h (BitVec.eq_of_toFin_eq e).symm

@[simp] theorem State.setSurface_surface (s : State) (i : Fin 64) (r : Surface) :
    (s.setSurface i r).surface i = r := by
  simp [State.setSurface, State.surface]

theorem State.setSurface_surface_ne (s : State) {i j : Fin 64} (r : Surface) (h : j ≠ i) :
    (s.setSurface i r).surface j = s.surface j := by
  simp only [State.setSurface, State.surface, State.setSurfaces_surfaces]
  exact Tbl.get_set_ne _ _ h.symm

@[simp] theorem State.setZone_zone (s : State) (z : Fin 32) (r : Zone) : (s.setZone z r).zone z = r := by
  simp [State.setZone, State.zone]

theorem State.setZone_zone_ne (s : State) {z y : Fin 32} (r : Zone) (h : y ≠ z) :
    (s.setZone z r).zone y = s.zone y := by
  simp only [State.setZone, State.zone, State.setZones_zones]
  exact Tbl.get_set_ne _ _ h.symm

@[simp] theorem State.setSlot_slot (s : State) (i : Fin 16) (r : Slot) : (s.setSlot i r).slot i = r := by
  simp [State.setSlot, State.slot]

theorem State.setSlot_slot_ne (s : State) {i j : Fin 16} (r : Slot) (h : j ≠ i) :
    (s.setSlot i r).slot j = s.slot j := by
  simp only [State.setSlot, State.slot, State.setSlots_slots]
  exact Tbl.get_set_ne _ _ h.symm

/-! ### Footprints of the shared operations -/

theorem State.evalCondense_changes (s : State) : s.Changes s.evalCondense [.condense] :=
  s.setCondense_changes _

theorem State.loseEvent_changes (s : State) (e : Event) : s.Changes (s.loseEvent e) reportFields := by
  unfold State.loseEvent
  dsimp only
  split
  · exact ((s.count_changes _).mono (by decide)).trans
      (((State.setAlarmLoss_changes _ _).mono (by decide)).trans
        ((State.evalCondense_changes _).mono (by decide)))
  · exact (s.count_changes _).mono (by decide)

/-- Raising an event touches the slots, the counters, the latch and the CONDENSE line alone. -/
theorem State.raise_changes (s : State) (e : Event) : s.Changes (s.raise e) reportFields := by
  unfold State.raise
  split
  · exact (s.setSlot_changes _ _).mono (by decide)
  · split
    · exact (s.setSlot_changes _ _).mono (by decide)
    · exact s.loseEvent_changes e

theorem State.flushSlots_changes (s : State) : s.Changes s.flushSlots [.slots] := s.setSlots_changes _

theorem State.raiseDark_changes (s : State) : s.Changes s.raiseDark reportFields :=
  State.Changes.foldl (fun t p => by
    split
    · exact State.Changes.refl t _
    · exact State.raise_changes t _) floorPorts s

theorem State.reencode_changes (s : State) (z : Fin 32) : s.Changes (s.reencode z) [.zones] :=
  s.updZone_changes z _

theorem State.reencodeOf_changes (s : State) (c : Option SurfaceConfig) :
    s.Changes (s.reencodeOf c) [.zones] := by
  cases c with
  | none => exact .refl s _
  | some c => exact s.reencode_changes c.zone

theorem State.raiseZone_changes (s : State) (z : Fin 32) : s.Changes (s.raiseZone z) reportFields := by
  unfold State.raiseZone
  dsimp only
  split
  · exact s.raise_changes _
  · exact .refl s _

/-- What a grade change can touch (R96). -/
def gradeFields : List Field := [.surfaces, .zones] ++ reportFields

theorem State.gradeChanged_changes (s : State) (i : Fin 64) (left : Grade) :
    s.Changes (s.gradeChanged i left) gradeFields := by
  unfold State.gradeChanged
  split
  · exact .refl s _
  · dsimp only
    split
    · exact ((s.setSurface_changes _ _).mono (by decide)).trans
        (((State.raise_changes _ _).mono (by decide)).trans
          (((State.reencode_changes _ _).mono (by decide)).trans
            ((State.evalCondense_changes _).mono (by decide))))
    · exact ((s.setSurface_changes _ _).mono (by decide)).trans
        (((State.reencode_changes _ _).mono (by decide)).trans
          ((State.evalCondense_changes _).mono (by decide)))

theorem State.regrade_changes (s : State) (i : Fin 64) (left : Grade) (r : Surface) :
    s.Changes (s.regrade i left r) gradeFields := by
  unfold State.regrade
  dsimp only
  split
  · exact ((s.setSurface_changes _ _).mono (by decide)).trans (State.gradeChanged_changes _ _ _)
  · exact (s.setSurface_changes _ _).mono (by decide)

theorem State.evaluate_changes (s : State) (i : Fin 64) (part : Option (Int × Source)) :
    s.Changes (s.evaluate i part) gradeFields := by
  unfold State.evaluate
  dsimp only
  split
  · exact .refl s _
  · split <;> exact s.regrade_changes _ _ _

theorem State.unconfirmed_changes (s : State) (i : Fin 64) : s.Changes (s.unconfirmed i) gradeFields :=
  (s.setSurface_changes _ _).mono (by decide)

theorem State.wetnessArrival_changes (s : State) (sel : Selector) (w : Wet) :
    s.Changes (s.wetnessArrival sel w) gradeFields := by
  cases w
  · exact State.Changes.foldl State.unconfirmed_changes _ s
  · exact State.Changes.foldl (fun t i => State.regrade_changes t _ _ _) _ s

/-- A probe notice touches surfaces, zones and reports alone. -/
theorem State.probeNotice_changes (s : State) (kind : SensorKind) (sel : Selector) :
    s.Changes (s.probeNotice kind sel) gradeFields := by
  cases kind
  · exact .refl s _
  · exact State.Changes.foldl (fun t i => State.regrade_changes t _ _ _) _ s
  · exact State.Changes.foldl State.unconfirmed_changes _ s

theorem State.raiseSensor_changes (s : State) (sel : Selector) (left : SensorState) :
    s.Changes (s.raiseSensor sel left) reportFields := by
  unfold State.raiseSensor
  dsimp only
  split
  · exact .refl s _
  · split
    · exact s.raise_changes _
    · exact .refl s _

theorem State.goStale_changes (s : State) (sel : Selector) :
    s.Changes (s.goStale sel) (.sdt :: gradeFields) := by
  unfold State.goStale
  dsimp only
  split
  · exact .refl s _
  · exact ((s.setDesc_changes _ _).mono (by decide)).trans
      (((State.raiseSensor_changes _ _ _).mono (by decide)).trans
        ((State.probeNotice_changes _ _ _).mono (by decide)))

theorem State.offerFq_changes (s : State) (f : Frame) : s.Changes (s.offerFq f) [.turn] :=
  s.updTurn_changes _

theorem State.offerEnriched_changes (s : State) (sel : Selector) (payload : List Byte) (v : RefValue) :
    s.Changes (s.offerEnriched sel payload v) [.turn, .sdt] :=
  ((s.offerFq_changes _).mono (by decide)).trans ((State.updDesc_changes _ _ _).mono (by decide))

/-- A forward decision touches the forward queue and the reference alone. -/
theorem State.offerChanged_changes (s : State) (sel : Selector) (deadband : Nat) (payload : List Byte)
    (v : RefValue) : s.Changes (s.offerChanged sel deadband payload v) [.turn, .sdt] := by
  unfold State.offerChanged
  dsimp only
  split
  · exact s.offerEnriched_changes _ _ _
  · exact State.Changes.refl _ _

theorem State.forward_changes (s : State) (sel : Selector) (payload : List Byte) (v : RefValue) :
    s.Changes (s.forward sel payload v) [.turn, .sdt] := by
  unfold State.forward
  split
  · exact State.Changes.refl _ _
  · split
    · exact State.Changes.refl _ _
    · exact State.Changes.refl _ _
    · exact s.offerEnriched_changes _ _ _
    · exact s.offerChanged_changes _ _ _ _

theorem State.forwardReject_changes (s : State) (sel : Selector) (moved : Bool) :
    s.Changes (s.forwardReject sel moved) [.turn, .sdt] := by
  unfold State.forwardReject
  dsimp only
  split
  · exact State.Changes.refl _ _
  · split
    · exact State.Changes.refl _ _
    · exact State.Changes.refl _ _
    · exact s.offerEnriched_changes _ _ _
    · split
      · exact s.offerEnriched_changes _ _ _
      · exact State.Changes.refl _ _

theorem State.takeJob_changes (s : State) : s.Changes s.takeJob [.job, .evalQueue, .zoneClose] := by
  unfold State.takeJob
  split
  · split
    · exact ((s.setZoneClose_changes _).mono (by decide)).trans
        ((State.setJob_changes _ _).mono (by decide))
    · exact (s.setJob_changes _).mono (by decide)
  · split
    · exact ((s.setEvalQueue_changes _).mono (by decide)).trans
        ((State.setJob_changes _ _).mono (by decide))
    · exact (s.setJob_changes _).mono (by decide)

theorem State.takeIfIdle_changes (s : State) :
    s.Changes s.takeIfIdle [.job, .evalQueue, .zoneClose] := by
  unfold State.takeIfIdle
  split
  · exact s.takeJob_changes
  · exact .refl s _

/-- An offer touches the queue, the counters, the mark, and the take of an IDLE engine (R19). -/
theorem State.offerJob_changes (s : State) (j : SampleJob) :
    s.Changes (s.offerJob j) [.job, .evalQueue, .zoneClose, .counters, .sdt] := by
  unfold State.offerJob
  split
  · exact ((s.setEvalQueue_changes _).mono (by decide)).trans
      ((State.count_changes _ _).mono (by decide))
  · split
    · exact ((s.setEvalQueue_changes _).mono (by decide)).trans
        ((State.takeIfIdle_changes _).mono (by decide))
    · exact ((s.count_changes _).mono (by decide)).trans ((State.updDesc_changes _ _ _).mono (by decide))

theorem State.closeZone_changes (s : State) (z : Fin 32) :
    s.Changes (s.closeZone z) [.zones, .zoneClose] := by
  unfold State.closeZone
  dsimp only
  split
  · exact (s.setZone_changes _ _).mono (by decide)
  · exact ((s.setZone_changes _ _).mono (by decide)).trans
      ((State.setZoneClose_changes _ _).mono (by decide))

theorem State.closeZones_changes (s : State) : s.Changes s.closeZones [.zones, .zoneClose] :=
  State.Changes.foldl State.closeZone_changes _ s

theorem State.commitReply_changes (s : State) : s.Changes s.commitReply [.turn] := s.updTurn_changes _

theorem State.joinReplies_changes (s : State) (f : Frame) (src : ReplySource) :
    s.Changes (s.joinReplies f src) [.turn] :=
  (s.updTurn_changes _).trans (State.commitReply_changes _)

theorem State.commitQueued_changes (s : State) : s.Changes s.commitQueued [.turn, .slots] := by
  have slot : ∀ i, s.Changes (s.commitSlot i) [.turn, .slots] := fun i =>
    ((s.setSlot_changes _ _).mono (by decide)).trans ((State.updTurn_changes _ _).mono (by decide))
  have fwd : ∀ f rest, s.Changes (s.commitForward f rest) [.turn, .slots] := fun _ _ =>
    (s.updTurn_changes _).mono (by decide)
  unfold State.commitQueued
  split
  · split
    · exact fwd _ _
    · exact slot _
  · exact fwd _ _
  · exact slot _
  · exact (s.updTurn_changes _).mono (by decide)

/-- A frame opportunity touches the turn controller, and the slot it takes from (R159). -/
theorem State.frameOpportunity_changes (s : State) : s.Changes s.frameOpportunity [.turn, .slots] := by
  unfold State.frameOpportunity
  split
  · exact (s.updTurn_changes _).mono (by decide)
  · split
    · exact (s.updTurn_changes _).mono (by decide)
    · exact s.commitQueued_changes

/-- Handing a reply over touches its port, or the turn controller (R177). -/
theorem State.handReply_changes (s : State) (p : Port) (f : Frame) (src : ReplySource) :
    s.Changes (s.handReply p f src) [.ports, .turn] := by
  cases p with
  | floor q => exact (s.updPort_changes _ _).mono (by decide)
  | u => exact (s.joinReplies_changes _ _).mono (by decide)

theorem State.replyEnds_changes (s : State) (src : ReplySource) :
    s.Changes (s.replyEnds src) [.ports, .due] := by
  cases src with
  | mgmt => exact (s.updPort_changes _ _).mono (by decide)
  | restart =>
    exact ((s.updPort_changes _ _).mono (by decide)).trans ((State.setDue_changes _ _).mono (by decide))
  | pollReport i => exact .refl s _
  | pollStatus => exact .refl s _

end Sys2Proof.Machine
end

