-- ==== Sys2Proof/Laws/Settle.lean ====
section
/-! SUPPORT. A state with nothing due settles to itself, and what the shapes of `exec` answer there. -/

namespace Sys2Proof.Machine

/-! ### What is due, in a settled state -/

theorem Tbl.get_mem {n : Nat} {α : Type} (t : Tbl n α) (i : Fin n) : t.get i ∈ t.cells := by
  simp [Tbl.get]

theorem Tbl.mem_cells {n : Nat} {α : Type} (t : Tbl n α) (x : α) (h : x ∈ t.cells) :
    ∃ i : Fin n, t.get i = x := by
  obtain ⟨k, hk, rfl⟩ := List.getElem_of_mem h
  exact ⟨⟨k, by have := t.size; omega⟩, rfl⟩

theorem State.Settled.isRunning {s : State} (h : s.Settled) : s.running = true := by
  simp [State.running, h.running]

theorem Descriptor.staleDue_iff (d : Descriptor) :
    d.staleDue = true ↔ ∃ c, d.config = some c ∧ (d.phase = .awaiting ∨ d.phase = .live) ∧
      c.staleLimit ≤ d.age := by
  unfold Descriptor.staleDue
  split <;> simp_all

theorem PortRec.settingsDue_iff (r : PortRec) :
    r.settingsDue = true ↔ r.waiting ≠ none ∧ r.Ready := by
  simp [PortRec.settingsDue, PortRec.atBoundary, PortRec.Ready, Option.isSome_iff_ne_none]
  tauto

theorem PortRec.settingsDue_of_not {r : PortRec} (h : r.waiting = none ∨ ¬ r.Ready) :
    r.settingsDue = false := by
  rw [Bool.eq_false_iff, Ne, PortRec.settingsDue_iff]
  tauto

theorem State.takeSettings_none {s : State} {p : Port}
    (h : (s.port p).waiting = none ∨ ¬ (s.port p).Ready) : s.takeSettings p = s := by
  simp [State.takeSettings, State.updPort, PortRec.takeSettings, PortRec.settingsDue_of_not h]

theorem State.settingsAll_none {s : State}
    (h : ∀ p : Port, (s.port p).waiting = none ∨ ¬ (s.port p).Ready) : s.settingsAll = s := by
  simp [State.settingsAll, allPorts, State.takeSettings_none, h]

theorem State.routeBuffered_none {s : State} {p : Port} (h : (s.port p).buffer = none) :
    s.routeBuffered p = s := by
  unfold State.routeBuffered
  rw [h]

theorem State.routeAll_none {s : State} (h : ∀ p, (s.port p).buffer = none) : s.routeAll = s := by
  simp [State.routeAll, allPorts, State.routeBuffered_none, h]

theorem State.staleSelectors_none {s : State}
    (h : ∀ sel c, (s.desc sel).config = some c →
      (s.desc sel).phase = .awaiting ∨ (s.desc sel).phase = .live → (s.desc sel).age < c.staleLimit) :
    s.staleSelectors = [] := by
  unfold State.staleSelectors
  rw [if_neg]
  intro k
  obtain ⟨d, hd, hk⟩ := List.any_eq_true.mp k
  obtain ⟨i, rfl⟩ := Tbl.mem_cells _ _ hd
  obtain ⟨c, hc, hp, hl⟩ := (Descriptor.staleDue_iff _).mp hk
  have := h (BitVec.ofFin i) c hc hp
  exact absurd hl (Nat.not_le_of_lt this)

/-- A settled state has nothing to carry out. -/
theorem State.settle_of_settled {s : State} (h : s.Settled) : s.settle = s := by
  have e := h.epoch
  simp [State.settle, State.settingsAll_none h.settings, State.routeAll_none h.buffers, State.restartIfDue, h.restart, State.staleAll,
    State.staleSelectors_none h.sensors, State.epochIfDue, State.epochDue, State.silenceIfDue,
    h.silence, Nat.not_le_of_lt e]

/-! ### Settled states stay settled under updates of what is never due -/

/-- A state that agrees with a settled one on the fields that can be due is settled. -/
theorem State.Settled.congr {s t : State} (h : s.Settled) (p : t.power = s.power)
    (w : ∀ q, (t.port q).waiting = none ∨ ¬ (t.port q).Ready)
    (b : ∀ q, (t.port q).buffer = none) (d : t.due = s.due) (x : t.sdt = s.sdt)
    (e : t.epochCount = s.epochCount) (c : t.config = s.config) : t.Settled where
  running := p.trans h.running
  settings := w
  buffers := b
  restart := by rw [d]; exact h.restart
  sensors := by
    have k := h.sensors
    simp only [State.desc] at k ⊢
    rw [x]
    exact k
  epoch := by rw [e, c]; exact h.epoch
  silence := by rw [d]; exact h.silence

theorem State.Settled.setPins {s : State} (h : s.Settled) (v : Pins) : (s.setPins v).Settled :=
  h.congr rfl h.settings h.buffers rfl rfl rfl rfl

theorem State.Settled.setCommission {s : State} (h : s.Settled) (v : Bool) :
    (s.setCommission v).Settled := h.setPins _

theorem State.Settled.setLos {s : State} (h : s.Settled) (p : FloorPort) (v : Bool) :
    (s.setLos p v).Settled := h.setPins _

@[simp] theorem State.setCommission_port (s : State) (v : Bool) (p : Port) :
    (s.setCommission v).port p = s.port p := rfl

@[simp] theorem State.setLos_port (s : State) (q : FloorPort) (v : Bool) (p : Port) :
    (s.setLos q v).port p = s.port p := rfl

@[simp] theorem State.setCommission_hears (s : State) (v : Bool) (p : Port) :
    (s.setCommission v).hears p = s.hears p := by
  cases p <;> rfl

theorem State.Settled.setPort {s : State} (h : s.Settled) (p : Port) {r : PortRec}
    (w : r.waiting = none ∨ ¬ r.Ready) (b : r.buffer = none) : (s.setPort p r).Settled := by
  refine h.congr rfl (fun q => ?_) (fun q => ?_) rfl rfl rfl rfl
  · by_cases e : q = p
    · subst e; simpa using w
    · rw [State.setPort_port_ne _ _ e]; exact h.settings q
  · by_cases e : q = p
    · subst e; simp [b]
    · rw [State.setPort_port_ne _ _ e]; exact h.buffers q

/-! ### The shapes of `exec` -/

theorem State.actOn_settled {s : State} (h : s.Settled) (pin f : State → State) :
    s.actOn pin f = .next (f (pin s)) := by
  simp [State.actOn, h.isRunning, State.settle_of_settled h]

theorem State.actOn_stopped {s : State} (h : s.power ≠ .running) (pin f : State → State) :
    s.actOn pin f = .next (pin s) := by
  simp [State.actOn, State.running, h]

theorem State.act_settled {s : State} (h : s.Settled) (f : State → State) : s.act f = .next (f s) :=
  State.actOn_settled h _ f

theorem State.act_stopped {s : State} (h : s.power ≠ .running) (f : State → State) :
    s.act f = .next s := State.actOn_stopped h _ f

theorem State.actDue_due {s : State} (h : s.power = .running) {due : Bool} (d : due = true)
    (f : State → State) : s.actDue due f = .next (f s) := by
  simp [State.actDue, State.running, h, d]

/-- On a settled part a frame of its row, on a port that can receive it, is routed under the pin level of
the event; any other frame changes nothing but that level. -/
theorem State.actFrameAt_cases {s : State} (h : s.Settled) (pin : State → State) (p : Port) (f : Frame)
    (row : FrameRow) :
    s.actFrameAt pin p f row =
      .next (if (pin s).arrives p f row then (pin s).routeFrame p f else pin s) := by
  simp [State.actFrameAt, State.actOn_settled h, h.buffers p]

theorem State.actFrameAt_settled {s : State} (h : s.Settled) {p : Port} {f : Frame} {row : FrameRow}
    (pin : State → State) (k : (pin s).hears p = true) (e : frameRow (pin s).unitNo p f = row) :
    s.actFrameAt pin p f row = .next ((pin s).routeFrame p f) := by
  simp [State.actFrameAt_cases h, State.arrives, k, e]

theorem State.actFrame_settled {s : State} (h : s.Settled) {p : Port} {f : Frame} {row : FrameRow}
    (k : s.hears p = true) (e : frameRow s.unitNo p f = row) :
    s.actFrame p f row = .next (s.routeFrame p f) := State.actFrameAt_settled h id k e

theorem State.actFrameAt_off {s : State} (h : s.Settled) (pin : State → State) {p : Port} {f : Frame}
    {row : FrameRow} (k : (pin s).arrives p f row = false) :
    s.actFrameAt pin p f row = .next (pin s) := by
  simp [State.actFrameAt_cases h, k]

/-- A frame that waits in the port's buffer is handed on with all that is due, before the pin level. -/
theorem State.actFrameAt_buffered {s : State} (r : s.power = .running) (pin : State → State) {p : Port}
    {f : Frame} {row : FrameRow} (h : (s.port p).buffer = some f) :
    s.actFrameAt pin p f row = .next (pin s.settle) := by
  simp [State.actFrameAt, State.actOn, State.running, r, h]

theorem State.actFrameAt_stopped {s : State} (h : s.power ≠ .running) (pin : State → State) (p : Port)
    (f : Frame) (row : FrameRow) : s.actFrameAt pin p f row = .next (pin s) :=
  State.actOn_stopped h _ _

end Sys2Proof.Machine
end

