-- ==== Sys2Proof/Laws/Requests.lean ====
section
/-! SUPPORT. A management request at the router and at the engine: how the request rows reach
`State.take`, and what an answer is in the terms of Safety.lean. -/

namespace Sys2Proof.Machine

/-- The request frame that a request row's operands make. -/
theorem frameRow_mgmt {s : State} {p : Port} {e : Envelope} {payload : List Byte}
    (h : s.Addressed p e) :
    frameRow s.unitNo p (frameOf .mgmtReq e payload) = .mgmt (requestRow payload) := by
  obtain ⟨a, b⟩ := h
  cases p with
  | floor q => simp [frameRow, floorRow, frameOf, FrameKind.code, FrameKind.ofCode, a]
  | u =>
    obtain ⟨c, d⟩ := b rfl
    simp [frameRow, supervisorRow, frameOf, FrameKind.code, FrameKind.ofCode, a, c, d]

/-- `OtherRequest` names exactly the payloads of MALFORMED_REQUEST. -/
theorem requestRow_malformed_iff (payload : List Byte) :
    requestRow payload = .malformed ↔ OtherRequest payload := by
  rcases payload with _ | ⟨cmd, _ | ⟨table, _ | ⟨index, _ | ⟨count, rest⟩⟩⟩⟩ <;>
    simp only [requestRow, OtherRequest, List.length_nil, List.length_cons, List.getD_cons_zero,
      List.getD_cons_succ, ne_eq, ← BitVec.toNat_inj, BitVec.reduceToNat]
  · simp
  · simp
  · simp
  · simp
  · have := cmd.isLt
    have := table.isLt
    split <;> (try split) <;> simp only [reduceCtorEq, false_iff, true_iff] <;> try omega
    · simp only [imp_false] at *
      omega
    · generalize cmd.toNat = c at *
      rcases c with _ | _ | _ | _ | _ | _ | _ | _ | _ | c <;> simp at * <;> omega

theorem State.Addressed.setPins {s : State} {p : Port} {e : Envelope} (h : s.Addressed p e) (v : Pins) :
    (s.setPins v).Addressed p e := h

/-- What the router hands to the engine is the request as it arrived: a floor port's rewriting changes
nothing the engine reads (R139, R142). -/
theorem State.routeFrame_mgmt {s : State} {p : Port} {e : Envelope} {payload : List Byte}
    (h : s.Addressed p e) :
    s.routeFrame p (frameOf .mgmtReq e payload) = s.routeRequest p
      (match p with
        | .floor q => rewriteSource s.unitNo q (frameOf .mgmtReq e payload)
        | .u => frameOf .mgmtReq e payload) := by
  have k := frameRow_mgmt (payload := payload) h
  cases p with
  | floor q =>
    have k' : floorRow (rewriteSource s.unitNo q (frameOf .mgmtReq e payload)) =
        .mgmt (requestRow payload) := k
    simp [State.routeFrame, State.routeFloor, k']
  | u =>
    simp only [frameRow] at k
    simp [State.routeFrame, State.routeSupervisor, k]

/-- The engine's record of a request that reaches it. -/
theorem State.requestOf_eq (s : State) (p : Port) (e : Envelope) (payload : List Byte)
    (f : Frame) (hf : f = (match p with
        | .floor q => rewriteSource s.unitNo q (frameOf .mgmtReq e payload)
        | .u => frameOf .mgmtReq e payload)) :
    s.requestOf p f = requestRecord p e s.pins.commission payload := by
  subst hf
  cases p <;> rfl

/-- A request that an IDLE engine can take: the row's payload goes to `State.take`. -/
theorem State.actFrame_admits {s : State} {p : Port} {e : Envelope} {commission : Bool}
    {payload : List Byte} {row : RequestRow} (h : s.Admits p e) (hr : requestRow payload = row) :
    s.actFrameAt (State.setCommission commission) p (frameOf .mgmtReq e payload) (.mgmt row) =
      .next ((s.asked p commission).take (requestRecord p e commission payload)) := by
  have ad : (s.setCommission commission).Addressed p e := h.addressed
  rw [State.actFrameAt_settled h.settled _ (by simpa using h.hears) (by rw [frameRow_mgmt ad, hr]),
    State.routeFrame_mgmt ad]
  have ow : ((s.setCommission commission).port p).owed = false := h.free
  have idle : ((s.setCommission commission).updPort p fun r => { r with owed := true }).mgmt = .idle :=
    h.idle
  simp only [State.routeRequest, ow, State.request, idle]
  rw [State.requestOf_eq _ p e payload _ (by cases p <;> rfl)]
  rfl

/-- The same for the rows whose operands are a request's. -/
theorem State.actRequest_admits {s : State} {p : Port} {row : RequestRow} {cmd table index : Byte}
    {r : MgmtOperand} (h : s.Admits p r.env)
    (hr : requestRow ([cmd, table, index, r.count] ++ r.data) = row) :
    s.actRequest p row cmd table index r =
      .next ((s.asked p r.commission).take
        (requestRecord p r.env r.commission (requestPayload cmd table index r))) :=
  State.actFrame_admits h hr

/-- A reply in the terms of Safety.lean. -/
theorem State.replyFrame_eq (s : State) (p : Port) (e : Envelope) (commission : Bool)
    (cmd : Byte) (rest : List Byte) (a : Answer) :
    s.replyFrame (requestRecord p e commission (cmd :: rest)) a =
      replyTo s.unitNo p e cmd a.status.code a.index a.count a.data := by
  cases p <;> rfl

/-- Serving an answer that changes nothing is `State.answered`. -/
theorem State.serve_answered (s : State) (p : Port) (r : MgmtOperand) (cmd table index : Byte)
    (a : Answer) :
    (s.asked p r.commission).serve (requestRecord p r.env r.commission (requestPayload cmd table index r))
        (s.asked p r.commission, a) =
      s.answered p r cmd table index a.status.code a.index a.count a.data := by
  unfold State.serve State.answered requestPayload
  simp only [List.cons_append, State.replyFrame_eq]
  rfl

/-- The fields the engine reads in a request row's payload (R174). -/
def requestArgs (cmd table index : Byte) (r : MgmtOperand) : Args :=
  { cmd := cmd, table := table, index := index, count := r.count, data := r.data }

theorem State.take_read (s : State) (p : Port) (table index : Byte) (r : MgmtOperand) :
    s.take (requestRecord p r.env r.commission (requestPayload 1 table index r)) =
      let q := requestRecord p r.env r.commission (requestPayload 1 table index r)
      let a := requestArgs 1 table index r
      s.serve q (s, s.readAnswer q.level a) := rfl

theorem State.take_write (s : State) (p : Port) (table index : Byte) (r : MgmtOperand) :
    s.take (requestRecord p r.env r.commission (requestPayload 2 table index r)) =
      let q := requestRecord p r.env r.commission (requestPayload 2 table index r)
      let a := requestArgs 2 table index r
      s.serve q (s.writeAnswer q.port q.level a) := rfl

theorem State.take_exchange (s : State) (p : Port) (table index : Byte) (r : MgmtOperand) :
    s.take (requestRecord p r.env r.commission (requestPayload 3 table index r)) =
      let q := requestRecord p r.env r.commission (requestPayload 3 table index r)
      let a := requestArgs 3 table index r
      s.serve q (s.exchangeAnswer q.level a) := rfl

theorem State.take_svtLoad (s : State) (p : Port) (table index : Byte) (r : MgmtOperand) :
    s.take (requestRecord p r.env r.commission (requestPayload 4 table index r)) =
      let q := requestRecord p r.env r.commission (requestPayload 4 table index r)
      let a := requestArgs 4 table index r
      s.serve q (s.loadAnswer q.level a) := rfl

theorem State.take_svtCommit (s : State) (p : Port) (table index : Byte) (r : MgmtOperand) :
    s.take (requestRecord p r.env r.commission (requestPayload 5 table index r)) =
      let q := requestRecord p r.env r.commission (requestPayload 5 table index r)
      let a := requestArgs 5 table index r
      s.beginCommit q a := rfl

theorem State.take_query (s : State) (p : Port) (table index : Byte) (r : MgmtOperand) :
    s.take (requestRecord p r.env r.commission (requestPayload 6 table index r)) =
      let q := requestRecord p r.env r.commission (requestPayload 6 table index r)
      let a := requestArgs 6 table index r
      s.serve q (s, s.queryAnswer q.level a) := rfl

theorem State.take_clear (s : State) (p : Port) (table index : Byte) (r : MgmtOperand) :
    s.take (requestRecord p r.env r.commission (requestPayload 7 table index r)) =
      let q := requestRecord p r.env r.commission (requestPayload 7 table index r)
      let a := requestArgs 7 table index r
      s.serve q (s.clearAnswer q.level a) := rfl

theorem State.take_restart (s : State) (p : Port) (table index : Byte) (r : MgmtOperand) :
    s.take (requestRecord p r.env r.commission (requestPayload 8 table index r)) =
      let q := requestRecord p r.env r.commission (requestPayload 8 table index r)
      let a := requestArgs 8 table index r
      s.beginRestart q a := rfl

end Sys2Proof.Machine
end

