-- ==== Sys2Proof/Laws/Commands.lean ====
section
/-! SUPPORT. What `exec` is at each command, one equation per constructor, true by unfolding the dispatch. -/

namespace Sys2Proof.Machine

theorem exec_resetAsserted (s : State) :
    exec .resetAsserted s = .next s.enterReset := rfl
theorem exec_powerOn (straps : BitVec 3) (s : State) :
    exec (.powerOn straps) s = .next (s.powerUp straps) := rfl
theorem exec_secondsTick (s : State) :
    exec .secondsTick s = s.act State.tick := rfl
theorem exec_stalenessExpiry (sel : Selector) (s : State) :
    exec (.stalenessExpiry sel) s = s.actDue (s.desc sel).staleDue fun s => s.goStale sel := rfl
theorem exec_epochExpiry (s : State) :
    exec .epochExpiry s = s.actDue s.epochDue State.epochExpires := rfl
theorem exec_silenceEntry (s : State) :
    exec .silenceEntry s = s.actDue s.due.silence State.enterSilent := rfl
theorem exec_losAsserted (p : FloorPort) (s : State) :
    exec (.losAsserted p) s = s.actOn (State.setLos p true) fun s => s.signalLost p := rfl
theorem exec_losReleased (p : FloorPort) (s : State) :
    exec (.losReleased p) s = s.actOn (State.setLos p false) fun s => s.signalBack p := rfl
theorem exec_characterReceived (p : Port) (l : LineChar) (ended commission : Bool) (s : State) :
    exec (.characterReceived p l ended commission) s =
      s.actOn (State.setCommission commission) fun s => s.receiveChar p l ended := rfl
theorem exec_gapTimeout (p : Port) (s : State) :
    exec (.gapTimeout p) s = s.act fun s => s.updPort p PortRec.gapExpires := rfl
theorem exec_breakRecognised (x : FloorLevel) (s : State) :
    exec (.breakRecognised x) s = s.act fun s => s.updPort (.floor x.port) fun r => r.breakSeen x := rfl
theorem exec_breakEnd (x : FloorLevel) (s : State) :
    exec (.breakEnd x) s = s.act fun s => s.updPort (.floor x.port) fun r => r.pulseEnds x := rfl
theorem exec_foreignFrameIgnored (f : Frame) (s : State) :
    exec (.foreignFrameIgnored f) s = s.actFrame .u f .foreign := rfl
theorem exec_sample (p : FloorPort) (e : Envelope) (payload : List Byte) (s : State) :
    exec (.sample p e payload) s = s.actFrame (.floor p) (frameOf .sample e payload) .sample := rfl
theorem exec_airJobCompletion (s : State) :
    exec .airJobCompletion s = s.act State.completeAir := rfl
theorem exec_surfaceJobCompletion (s : State) :
    exec .surfaceJobCompletion s = s.act State.completeSurface := rfl
theorem exec_zoneJobCompletion (s : State) :
    exec .zoneJobCompletion s = s.act State.completeZone := rfl
theorem exec_nodeStatus (p : FloorPort) (e : Envelope) (payload : List Byte) (s : State) :
    exec (.nodeStatus p e payload) s =
      s.actFrame (.floor p) (frameOf .nodeStatus e payload) .nodeStatus := rfl
theorem exec_nodeCmd (e : Envelope) (payload : List Byte) (s : State) :
    exec (.nodeCmd e payload) s = s.actFrame .u (frameOf .nodeCmd e payload) .nodeCmd := rfl
theorem exec_misdirectedFrame (p : Port) (f : Frame) (s : State) :
    exec (.misdirectedFrame p f) s = s.actFrame p f .misdirected := rfl
theorem exec_unknownKindFrame (p : Port) (f : Frame) (s : State) :
    exec (.unknownKindFrame p f) s = s.actFrame p f .unknownKind := rfl
theorem exec_grant (e : Envelope) (payload : List Byte) (s : State) :
    exec (.grant e payload) s = s.actFrame .u (frameOf .grant e payload) .grant := rfl
theorem exec_poll (e : Envelope) (payload : List Byte) (s : State) :
    exec (.poll e payload) s = s.actFrame .u (frameOf .poll e payload) .poll := rfl
theorem exec_uTransmitStart (s : State) :
    exec .uTransmitStart s = s.act State.uStarts := rfl
theorem exec_uFrameSent (s : State) :
    exec .uFrameSent s = s.act State.uSent := rfl
theorem exec_collision (pos : Nat) (back : LineChar) (s : State) :
    exec (.collision pos back) s =
      s.act fun s => if s.echoFailsAt pos back then s.uCollides else s := rfl
theorem exec_floorFrameSent (p : FloorPort) (s : State) :
    exec (.floorFrameSent p) s = s.act fun s => s.updPort (.floor p) PortRec.floorSent := rfl
theorem exec_settingsTakeEffect (p : Port) (s : State) :
    exec (.settingsTakeEffect p) s =
      s.actDue (s.port p).settingsDue fun s => s.takeSettings p := rfl
theorem exec_read (p : Port) (table : Byte) (r : MgmtOperand) (s : State) :
    exec (.read p table r) s = s.actRequest p .read 1 table r.index r := rfl
theorem exec_writeSdt (p : Port) (r : MgmtOperand) (s : State) :
    exec (.writeSdt p r) s = s.actRequest p .writeSdt 2 1 r.index r := rfl
theorem exec_writeSft (p : Port) (r : MgmtOperand) (s : State) :
    exec (.writeSft p r) s = s.actRequest p .writeSft 2 4 r.index r := rfl
theorem exec_exchangeSft (p : Port) (r : MgmtOperand) (s : State) :
    exec (.exchangeSft p r) s = s.actRequest p .exchangeSft 3 4 r.index r := rfl
theorem exec_writeThr (p : Port) (r : MgmtOperand) (s : State) :
    exec (.writeThr p r) s = s.actRequest p .writeThr 2 5 r.index r := rfl
theorem exec_exchangeThr (p : Port) (r : MgmtOperand) (s : State) :
    exec (.exchangeThr p r) s = s.actRequest p .exchangeThr 3 5 r.index r := rfl
theorem exec_writeZone (p : Port) (r : MgmtOperand) (s : State) :
    exec (.writeZone p r) s = s.actRequest p .writeZone 2 6 r.index r := rfl
theorem exec_writeSlot (p : Port) (r : MgmtOperand) (s : State) :
    exec (.writeSlot p r) s = s.actRequest p .writeSlot 2 7 r.index r := rfl
theorem exec_writeEpochLength (p : Port) (r : MgmtOperand) (s : State) :
    exec (.writeEpochLength p r) s = s.actRequest p .writeEpochLength 2 8 0 r := rfl
theorem exec_writeSilenceLimit (p : Port) (r : MgmtOperand) (s : State) :
    exec (.writeSilenceLimit p r) s = s.actRequest p .writeSilenceLimit 2 8 1 r := rfl
theorem exec_writeLineSettings (p : Port) (r : MgmtOperand) (s : State) :
    exec (.writeLineSettings p r) s = s.actRequest p .writeLineSettings 2 8 2 r := rfl
theorem exec_svtLoad (p : Port) (table : Byte) (r : MgmtOperand) (s : State) :
    exec (.svtLoad p table r) s = s.actRequest p .svtLoad 4 table r.index r := rfl
theorem exec_svtCommit (p : Port) (table : Byte) (r : MgmtOperand) (s : State) :
    exec (.svtCommit p table r) s = s.actRequest p .svtCommit 5 table r.index r := rfl
theorem exec_commitCheckCompletion (s : State) :
    exec .commitCheckCompletion s = s.act State.commitEnds := rfl
theorem exec_querySensor (p : Port) (r : MgmtOperand) (s : State) :
    exec (.querySensor p r) s = s.actRequest p .querySensor 6 1 r.index r := rfl
theorem exec_querySurface (p : Port) (r : MgmtOperand) (s : State) :
    exec (.querySurface p r) s = s.actRequest p .querySurface 6 2 r.index r := rfl
theorem exec_queryZone (p : Port) (r : MgmtOperand) (s : State) :
    exec (.queryZone p r) s = s.actRequest p .queryZone 6 3 r.index r := rfl
theorem exec_querySlot (p : Port) (r : MgmtOperand) (s : State) :
    exec (.querySlot p r) s = s.actRequest p .querySlot 6 4 r.index r := rfl
theorem exec_queryPort (p : Port) (r : MgmtOperand) (s : State) :
    exec (.queryPort p r) s = s.actRequest p .queryPort 6 5 r.index r := rfl
theorem exec_queryUnit (p : Port) (r : MgmtOperand) (s : State) :
    exec (.queryUnit p r) s = s.actRequest p .queryUnit 6 6 r.index r := rfl
theorem exec_clearCounters (p : Port) (r : MgmtOperand) (s : State) :
    exec (.clearCounters p r) s = s.actRequest p .clearCounters 7 1 r.index r := rfl
theorem exec_clearAccessed (p : Port) (r : MgmtOperand) (s : State) :
    exec (.clearAccessed p r) s = s.actRequest p .clearAccessed 7 2 r.index r := rfl
theorem exec_clearSlotFlags (p : Port) (r : MgmtOperand) (s : State) :
    exec (.clearSlotFlags p r) s = s.actRequest p .clearSlotFlags 7 3 r.index r := rfl
theorem exec_clearSurfaceCounts (p : Port) (r : MgmtOperand) (s : State) :
    exec (.clearSurfaceCounts p r) s = s.actRequest p .clearSurfaceCounts 7 4 r.index r := rfl
theorem exec_clearZoneFlags (p : Port) (r : MgmtOperand) (s : State) :
    exec (.clearZoneFlags p r) s = s.actRequest p .clearZoneFlags 7 5 r.index r := rfl
theorem exec_clearAlarm (p : Port) (r : MgmtOperand) (s : State) :
    exec (.clearAlarm p r) s = s.actRequest p .clearAlarm 7 6 r.index r := rfl
theorem exec_restart (p : Port) (table : Byte) (r : MgmtOperand) (s : State) :
    exec (.restart p table r) s = s.actRequest p .restart 8 table r.index r := rfl
theorem exec_restartTakesEffect (s : State) :
    exec .restartTakesEffect s = s.actDue s.due.restart State.restartEffect := rfl
theorem exec_serviceCompletion (s : State) :
    exec .serviceCompletion s = s.act State.serviceEnds := rfl
theorem exec_malformedRequest (p : Port) (e : Envelope) (commission : Bool)
    (payload : List Byte) (s : State) :
    exec (.malformedRequest p e commission payload) s =
      s.actFrameAt (State.setCommission commission) p (frameOf .mgmtReq e payload) (.mgmt .malformed) := rfl
theorem exec_supplyRemoved (s : State) :
    exec .supplyRemoved s = .next s.loseSupply := rfl

/-! ### The request rows at an IDLE engine

Each row hands its payload to `State.take`. -/

theorem exec_read_admits {s : State} {p : Port} {table : Byte} {r : MgmtOperand} (h : s.Admits p r.env) :
    exec (.read p table r) s = .next ((s.asked p r.commission).take
      (requestRecord p r.env r.commission (requestPayload 1 table r.index r))) :=
  State.actRequest_admits h rfl

theorem exec_writeSdt_admits {s : State} {p : Port} {r : MgmtOperand} (h : s.Admits p r.env) :
    exec (.writeSdt p r) s = .next ((s.asked p r.commission).take
      (requestRecord p r.env r.commission (requestPayload 2 1 r.index r))) :=
  State.actRequest_admits h rfl

theorem exec_writeSft_admits {s : State} {p : Port} {r : MgmtOperand} (h : s.Admits p r.env) :
    exec (.writeSft p r) s = .next ((s.asked p r.commission).take
      (requestRecord p r.env r.commission (requestPayload 2 4 r.index r))) :=
  State.actRequest_admits h rfl

theorem exec_exchangeSft_admits {s : State} {p : Port} {r : MgmtOperand} (h : s.Admits p r.env) :
    exec (.exchangeSft p r) s = .next ((s.asked p r.commission).take
      (requestRecord p r.env r.commission (requestPayload 3 4 r.index r))) :=
  State.actRequest_admits h rfl

theorem exec_writeThr_admits {s : State} {p : Port} {r : MgmtOperand} (h : s.Admits p r.env) :
    exec (.writeThr p r) s = .next ((s.asked p r.commission).take
      (requestRecord p r.env r.commission (requestPayload 2 5 r.index r))) :=
  State.actRequest_admits h rfl

theorem exec_exchangeThr_admits {s : State} {p : Port} {r : MgmtOperand} (h : s.Admits p r.env) :
    exec (.exchangeThr p r) s = .next ((s.asked p r.commission).take
      (requestRecord p r.env r.commission (requestPayload 3 5 r.index r))) :=
  State.actRequest_admits h rfl

theorem exec_writeZone_admits {s : State} {p : Port} {r : MgmtOperand} (h : s.Admits p r.env) :
    exec (.writeZone p r) s = .next ((s.asked p r.commission).take
      (requestRecord p r.env r.commission (requestPayload 2 6 r.index r))) :=
  State.actRequest_admits h rfl

theorem exec_writeSlot_admits {s : State} {p : Port} {r : MgmtOperand} (h : s.Admits p r.env) :
    exec (.writeSlot p r) s = .next ((s.asked p r.commission).take
      (requestRecord p r.env r.commission (requestPayload 2 7 r.index r))) :=
  State.actRequest_admits h rfl

theorem exec_writeEpochLength_admits {s : State} {p : Port} {r : MgmtOperand} (h : s.Admits p r.env) :
    exec (.writeEpochLength p r) s = .next ((s.asked p r.commission).take
      (requestRecord p r.env r.commission (requestPayload 2 8 0 r))) :=
  State.actRequest_admits h rfl

theorem exec_writeSilenceLimit_admits {s : State} {p : Port} {r : MgmtOperand} (h : s.Admits p r.env) :
    exec (.writeSilenceLimit p r) s = .next ((s.asked p r.commission).take
      (requestRecord p r.env r.commission (requestPayload 2 8 1 r))) :=
  State.actRequest_admits h rfl

theorem exec_writeLineSettings_admits {s : State} {p : Port} {r : MgmtOperand} (h : s.Admits p r.env) :
    exec (.writeLineSettings p r) s = .next ((s.asked p r.commission).take
      (requestRecord p r.env r.commission (requestPayload 2 8 2 r))) :=
  State.actRequest_admits h rfl

theorem exec_svtLoad_admits {s : State} {p : Port} {table : Byte} {r : MgmtOperand} (h : s.Admits p r.env) :
    exec (.svtLoad p table r) s = .next ((s.asked p r.commission).take
      (requestRecord p r.env r.commission (requestPayload 4 table r.index r))) :=
  State.actRequest_admits h rfl

theorem exec_svtCommit_admits {s : State} {p : Port} {table : Byte} {r : MgmtOperand} (h : s.Admits p r.env) :
    exec (.svtCommit p table r) s = .next ((s.asked p r.commission).take
      (requestRecord p r.env r.commission (requestPayload 5 table r.index r))) :=
  State.actRequest_admits h rfl

theorem exec_querySensor_admits {s : State} {p : Port} {r : MgmtOperand} (h : s.Admits p r.env) :
    exec (.querySensor p r) s = .next ((s.asked p r.commission).take
      (requestRecord p r.env r.commission (requestPayload 6 1 r.index r))) :=
  State.actRequest_admits h rfl

theorem exec_querySurface_admits {s : State} {p : Port} {r : MgmtOperand} (h : s.Admits p r.env) :
    exec (.querySurface p r) s = .next ((s.asked p r.commission).take
      (requestRecord p r.env r.commission (requestPayload 6 2 r.index r))) :=
  State.actRequest_admits h rfl

theorem exec_queryZone_admits {s : State} {p : Port} {r : MgmtOperand} (h : s.Admits p r.env) :
    exec (.queryZone p r) s = .next ((s.asked p r.commission).take
      (requestRecord p r.env r.commission (requestPayload 6 3 r.index r))) :=
  State.actRequest_admits h rfl

theorem exec_querySlot_admits {s : State} {p : Port} {r : MgmtOperand} (h : s.Admits p r.env) :
    exec (.querySlot p r) s = .next ((s.asked p r.commission).take
      (requestRecord p r.env r.commission (requestPayload 6 4 r.index r))) :=
  State.actRequest_admits h rfl

theorem exec_queryPort_admits {s : State} {p : Port} {r : MgmtOperand} (h : s.Admits p r.env) :
    exec (.queryPort p r) s = .next ((s.asked p r.commission).take
      (requestRecord p r.env r.commission (requestPayload 6 5 r.index r))) :=
  State.actRequest_admits h rfl

theorem exec_queryUnit_admits {s : State} {p : Port} {r : MgmtOperand} (h : s.Admits p r.env) :
    exec (.queryUnit p r) s = .next ((s.asked p r.commission).take
      (requestRecord p r.env r.commission (requestPayload 6 6 r.index r))) :=
  State.actRequest_admits h rfl

theorem exec_clearCounters_admits {s : State} {p : Port} {r : MgmtOperand} (h : s.Admits p r.env) :
    exec (.clearCounters p r) s = .next ((s.asked p r.commission).take
      (requestRecord p r.env r.commission (requestPayload 7 1 r.index r))) :=
  State.actRequest_admits h rfl

theorem exec_clearAccessed_admits {s : State} {p : Port} {r : MgmtOperand} (h : s.Admits p r.env) :
    exec (.clearAccessed p r) s = .next ((s.asked p r.commission).take
      (requestRecord p r.env r.commission (requestPayload 7 2 r.index r))) :=
  State.actRequest_admits h rfl

theorem exec_clearSlotFlags_admits {s : State} {p : Port} {r : MgmtOperand} (h : s.Admits p r.env) :
    exec (.clearSlotFlags p r) s = .next ((s.asked p r.commission).take
      (requestRecord p r.env r.commission (requestPayload 7 3 r.index r))) :=
  State.actRequest_admits h rfl

theorem exec_clearSurfaceCounts_admits {s : State} {p : Port} {r : MgmtOperand} (h : s.Admits p r.env) :
    exec (.clearSurfaceCounts p r) s = .next ((s.asked p r.commission).take
      (requestRecord p r.env r.commission (requestPayload 7 4 r.index r))) :=
  State.actRequest_admits h rfl

theorem exec_clearZoneFlags_admits {s : State} {p : Port} {r : MgmtOperand} (h : s.Admits p r.env) :
    exec (.clearZoneFlags p r) s = .next ((s.asked p r.commission).take
      (requestRecord p r.env r.commission (requestPayload 7 5 r.index r))) :=
  State.actRequest_admits h rfl

theorem exec_clearAlarm_admits {s : State} {p : Port} {r : MgmtOperand} (h : s.Admits p r.env) :
    exec (.clearAlarm p r) s = .next ((s.asked p r.commission).take
      (requestRecord p r.env r.commission (requestPayload 7 6 r.index r))) :=
  State.actRequest_admits h rfl

theorem exec_restart_admits {s : State} {p : Port} {table : Byte} {r : MgmtOperand} (h : s.Admits p r.env) :
    exec (.restart p table r) s = .next ((s.asked p r.commission).take
      (requestRecord p r.env r.commission (requestPayload 8 table r.index r))) :=
  State.actRequest_admits h rfl

theorem exec_malformedRequest_admits {s : State} {p : Port} {e : Envelope} {commission : Bool}
    {payload : List Byte} (h : s.Admits p e) (hr : requestRow payload = .malformed) :
    exec (.malformedRequest p e commission payload) s =
      .next ((s.asked p commission).take (requestRecord p e commission payload)) :=
  State.actFrame_admits h hr

end Sys2Proof.Machine
end

