-- ==== Sys2Proof/Laws/Lines.lean ====
section
/-! SUPPORT. What a cell and a character time show of the line, and what `takeSettings` leaves alone. -/

namespace Sys2Proof.Machine

/-- Under one inversion the level of a state is read as that state. -/
@[simp] theorem lineActive_lineLevel (p : Port) (inverted active : Bool) :
    lineActive p inverted (lineLevel p inverted active) = active := by
  cases p <;> cases inverted <;> cases active <;> rfl

/-- Under the other inversion it is read as the other state. -/
@[simp] theorem lineActive_lineLevel_not (p : Port) (inverted active : Bool) :
    lineActive p (!inverted) (lineLevel p inverted active) = !active := by
  cases p <;> cases inverted <;> cases active <;> rfl

/-- A cell is read as it is driven, under one inversion. -/
theorem readCell_cellLevels (p : Port) {tx rx : Settings} (h : rx.rxInv = tx.txInv) (cell : Bool) :
    readCell p rx (cellLevels p tx cell) = cell := by
  cases p <;> cases cell <;> simp [readCell, cellLevels, lightQuarters, stretch, h]

/-- The cells of a character are read as they are driven, under one inversion. -/
theorem map_readCell_charLevels (p : Port) {tx rx : Settings} (h : rx.rxInv = tx.txInv) (b : Byte) :
    (charLevels p tx b).cells.map (readCell p rx) = characterCells tx.parity b := by
  simp [charLevels, Function.comp_def, readCell_cellLevels p h]

/-- A line that is active just before the start cell shows no start bit. -/
theorem readLine_of_active_before {p : Port} {st : Settings} {l : LineChar}
    (h : lineActive p st.rxInv l.before = true) : readLine p st l = none := by
  simp [readLine, startSeen, h]

/-- What a receiver sees of the cells is what the line showed. -/
@[simp] theorem PortRec.seen_cells (r : PortRec) (p : Port) (l : LineChar) : (r.seen p l).cells = l.cells := by
  unfold PortRec.seen
  split <;> rfl

/-- While the receive inversion stands, a receiver sees the line as it is. -/
theorem PortRec.reads_of_not_turned {r : PortRec} (h : r.rxTurned = false) (p : Port) (l : LineChar) :
    r.reads p l = readLine p r.inForce l := by
  simp [PortRec.reads, PortRec.seen, h]

/-- After a change of the receive inversion, an active start cell alone begins a character. -/
theorem PortRec.reads_of_turned {r : PortRec} (h : r.rxTurned = true) {p : Port} {l : LineChar}
    (k : (l.cells.headD []).head?.any (lineActive p r.inForce.rxInv) = true) :
    r.reads p l = some (readCells r.inForce.parity (l.cells.map (readCell p r.inForce))) := by
  simp only [PortRec.reads, PortRec.seen, h, readLine, startSeen, if_true, lineActive_lineLevel, Bool.not_false,
    Bool.true_and]
  exact if_pos k

/-- U has no held character (R124). -/
@[simp] theorem lineHeld_u (st : Settings) (l : LineChar) : lineHeld .u st l = false := rfl

/-- Settings in force and waiting, and the mark of a turned receive inversion, are all that `takeSettings`
changes. -/
theorem PortRec.takeSettings_eq (r : PortRec) :
    ∃ w f x, r.takeSettings = { r with inForce := f, waiting := w, rxTurned := x } := by
  unfold PortRec.takeSettings
  split
  · exact ⟨_, _, _, rfl⟩
  · exact ⟨_, _, _, rfl⟩

end Sys2Proof.Machine
end

