-- ==== Sys2Proof/Laws/Management.lean ====
section
/-! SUPPORT. What each command of the management engine answers, one lemma per outcome (R174 to R185). -/

namespace Sys2Proof.Machine

/-! ### WRITE and EXCHANGE -/

theorem State.writeAnswer_denied {s : State} {p : Port} {level : Nat} {a : Args} {t : Table}
    (ht : Table.ofCode a.table.toNat = some t) (hb : t ≠ .svtActive ∧ t ≠ .svtShadow)
    (hl : t.writeLevel < level) : s.writeAnswer p level a = (s, a.echo .denied) := by
  simp [State.writeAnswer, ht, hb, hl]

theorem State.writeAnswer_checked {s : State} {p : Port} {level : Nat} {a : Args} {t : Table}
    {st : Status} (ht : Table.ofCode a.table.toNat = some t) (hb : t ≠ .svtActive ∧ t ≠ .svtShadow)
    (hl : level ≤ t.writeLevel) (hc : writeChecks t a = some st) :
    s.writeAnswer p level a = (s, a.echo st) := by
  simp [State.writeAnswer, ht, hb, Nat.not_lt_of_le hl, hc]

theorem State.writeAnswer_refused {s : State} {p : Port} {level : Nat} {a : Args} {t : Table}
    {st : Status} (ht : Table.ofCode a.table.toNat = some t) (hb : t ≠ .svtActive ∧ t ≠ .svtShadow)
    (hl : level ≤ t.writeLevel) (hc : writeChecks t a = none)
    (hw : s.writeEntry t p a.index a.data = .error st) :
    s.writeAnswer p level a = (s, a.echo st) := by
  simp [State.writeAnswer, ht, hb, Nat.not_lt_of_le hl, hc, hw]

theorem State.writeAnswer_ok {s s' : State} {p : Port} {level : Nat} {a : Args} {t : Table}
    (ht : Table.ofCode a.table.toNat = some t) (hb : t ≠ .svtActive ∧ t ≠ .svtShadow)
    (hl : level ≤ t.writeLevel) (hc : writeChecks t a = none)
    (hw : s.writeEntry t p a.index a.data = .ok s') :
    s.writeAnswer p level a = (s', a.echo .ok) := by
  simp [State.writeAnswer, ht, hb, Nat.not_lt_of_le hl, hc, hw]

theorem State.exchangeAnswer_denied {s : State} {level : Nat} {a : Args} {t : Table}
    (ht : Table.ofCode a.table.toNat = some t) (hb : t = .sft ∨ t = .thr)
    (hl : t.writeLevel < level) : s.exchangeAnswer level a = (s, a.echo .denied) := by
  rcases hb with rfl | rfl <;> simp [State.exchangeAnswer, ht, hl]

theorem State.exchangeAnswer_refused {s : State} {level : Nat} {a : Args} {t : Table} {st : Status}
    (ht : Table.ofCode a.table.toNat = some t) (hb : t = .sft ∨ t = .thr)
    (hl : level ≤ t.writeLevel) (hc : writeChecks t a = none)
    (hw : s.exchangeEntry t a.index a.data = .error st) :
    s.exchangeAnswer level a = (s, a.echo st) := by
  rcases hb with rfl | rfl <;> simp [State.exchangeAnswer, ht, Nat.not_lt_of_le hl, hc, hw]

theorem State.exchangeAnswer_ok {s s' : State} {level : Nat} {a : Args} {t : Table} {data : List Byte}
    (ht : Table.ofCode a.table.toNat = some t) (hb : t = .sft ∨ t = .thr)
    (hl : level ≤ t.writeLevel) (hc : writeChecks t a = none)
    (hw : s.exchangeEntry t a.index a.data = .ok (s', data)) :
    s.exchangeAnswer level a = (s', { a.echo .ok with data := data }) := by
  rcases hb with rfl | rfl <;> simp [State.exchangeAnswer, ht, Nat.not_lt_of_le hl, hc, hw]

/-! ### CLEAR -/

theorem State.clearAnswer_denied {s : State} {level : Nat} {a : Args} {t : Target}
    (ht : Target.ofCode a.table.toNat = some t) (hl : t.level < level) :
    s.clearAnswer level a = (s, a.echo .denied) := by
  simp [State.clearAnswer, ht, hl]

theorem State.clearAnswer_ok {s : State} {level : Nat} {a : Args} {t : Target}
    (ht : Target.ofCode a.table.toNat = some t) (hl : level ≤ t.level) (hd : a.data = []) :
    s.clearAnswer level a = (s.clear t, a.echo .ok) := by
  simp [State.clearAnswer, ht, Nat.not_lt_of_le hl, hd]

/-! ### Levels -/

/-- No effective level exceeds 3 (R175, R176). -/
theorem requestRecord_level_le (p : Port) (e : Envelope) (commission : Bool) (payload : List Byte) :
    (requestRecord p e commission payload).level ≤ 3 := by
  simp only [requestRecord]
  have := e.rpl.isLt
  cases p <;> simp <;> (try split) <;> omega

/-- A request that may change at level `n` has an effective level of at most `n` (R176). -/
theorem requestRecord_level_may {r : MgmtOperand} {p : Port} {n : Nat} (h : r.MayChange p n)
    (payload : List Byte) : (requestRecord p r.env r.commission payload).level ≤ n := by
  obtain ⟨rfl, a, b⟩ := h
  simp only [requestRecord]
  split
  · simp; omega
  · have : n ≠ 0 := fun k => by simp_all
    simp; omega

/-! ### Serving -/

/-- Serving an answer after a change: the state is the changed one with the engine SERVING, and the reply is that of
Safety.lean's `replyTo`. -/
theorem State.serve_changed (s s' : State) (p : Port) (r : MgmtOperand) (cmd table index : Byte)
    (a : Answer) :
    s.serve (requestRecord p r.env r.commission (requestPayload cmd table index r)) (s', a) =
      s'.setMgmt (.serving (requestRecord p r.env r.commission (requestPayload cmd table index r))
        (replyTo s.unitNo p r.env cmd a.status.code a.index a.count a.data)) := by
  unfold State.serve requestPayload
  simp only [List.cons_append, State.replyFrame_eq]

end Sys2Proof.Machine
end

