-- ==== Sys2Proof/Laws/Reports.lean ====
section
/-! SUPPORT. Where an event goes: the first index of a table that passes a test, and the three outcomes of raising an
event (R104 to R106). -/

namespace Sys2Proof.Machine

/-! ### The lowest-numbered entry that passes a test -/

theorem Tbl.indices_head_some {n : Nat} {α : Type} (t : Tbl n α) (q : α → Bool) (i : Fin n)
    (h : q (t.get i) = true) (hl : ∀ j, j < i → q (t.get j) = false) :
    (t.indices q).head? = some i := by
  unfold Tbl.indices
  rw [List.head?_filter, List.find?_eq_some_iff_append]
  refine ⟨h, (List.finRange n).take i.val, (List.finRange n).drop (i.val + 1), ?_, ?_⟩
  · conv_lhs => rw [← List.take_append_drop i.val (List.finRange n)]
    congr 1
    rw [List.drop_eq_getElem_cons (by simp)]
    simp
  · intro a ha
    obtain ⟨k, hk, rfl⟩ := List.getElem_of_mem ha
    simp at hk ⊢
    exact hl _ (by simp [Fin.lt_def]; omega)

theorem Tbl.indices_head_none {n : Nat} {α : Type} (t : Tbl n α) (q : α → Bool)
    (hl : ∀ j, q (t.get j) = false) : (t.indices q).head? = none := by
  simp [Tbl.indices, hl]

theorem Tbl.of_indices_head {n : Nat} {α : Type} {t : Tbl n α} {q : α → Bool} {i : Fin n}
    (h : (t.indices q).head? = some i) : q (t.get i) = true := by
  have := List.mem_of_head? h
  simpa using this

theorem Tbl.of_indices_none {n : Nat} {α : Type} {t : Tbl n α} {q : α → Bool}
    (h : (t.indices q).head? = none) (j : Fin n) : q (t.get j) = false := by
  have e : t.indices q = [] := by simpa using h
  by_contra k
  have : j ∈ t.indices q := by simpa using k
  rw [e] at this
  exact absurd this (by simp)

/-! ### Raising an event -/

/-- Raising an event supersedes an unsent entry of its subject in an accepting slot, or takes a place in a slot that
accepts it and has one, or is a loss: no slot accepts it with an entry of the subject or with a place. -/
theorem State.raise_cases (s : State) (e : Event) :
    (∃ i, (s.slot i).accepts e = true ∧ (s.slot i).holds e = true ∧
      s.raise e = s.setSlot i ((s.slot i).supersede e)) ∨
    ((∀ j, ((s.slot j).accepts e && (s.slot j).holds e) = false) ∧
      ((∃ i, (s.slot i).accepts e = true ∧ (s.slot i).canTake = true ∧
          s.raise e = s.setSlot i ((s.slot i).place e)) ∨
        ((∀ j, ((s.slot j).accepts e && (s.slot j).canTake) = false) ∧ s.raise e = s.loseEvent e))) := by
  unfold State.raise
  split
  · next i h =>
    have k := Tbl.of_indices_head h
    simp only [Bool.and_eq_true] at k
    exact .inl ⟨i, k.1, k.2, rfl⟩
  · next h =>
    refine .inr ⟨fun j => Tbl.of_indices_none h j, ?_⟩
    split
    · next i h' =>
      have k := Tbl.of_indices_head h'
      simp only [Bool.and_eq_true] at k
      exact .inl ⟨i, k.1, k.2, rfl⟩
    · next h' => exact .inr ⟨fun j => Tbl.of_indices_none h' j, rfl⟩

/-- The lowest-numbered PENDING slot (R159). -/
theorem State.firstPending_some {s : State} {i : Fin 16} (h : (s.slot i).state = .pending)
    (hl : ∀ j : Fin 16, j < i → (s.slot j).state ≠ .pending) : s.firstPending = some i :=
  Tbl.indices_head_some _ _ i (by simpa [State.slot] using h) fun j hj => by
    have := hl j hj
    simpa [State.slot] using this

theorem State.firstPending_none {s : State} (hl : ∀ j : Fin 16, (s.slot j).state ≠ .pending) :
    s.firstPending = none :=
  Tbl.indices_head_none _ _ fun j => by
    have := hl j
    simpa [State.slot] using this

end Sys2Proof.Machine
end

