-- ==== Sys2Proof/Laws/Uplink.lean ====
section
/-! SUPPORT. The turn controller in the terms of Safety.lean: a reply handed over, and U released outside a turn
(R156, R157), and the bound of the forward queue (R165). -/

namespace Sys2Proof.Machine

/-- A frame taken back leaves the forward queue within its bound. -/
theorem Turn.takeBack_length (t : Turn) (f : Frame) : (t.takeBack f).fq.length ≤ Config.forwardQueueSize := by
  unfold Turn.takeBack
  split
  · simp only [List.length_cons]
    omega
  · exact List.length_take_le _ _

/-- An offer keeps the forward queue within its bound. -/
theorem Turn.offer_length {t : Turn} (h : t.fq.length ≤ Config.forwardQueueSize) (f : Frame) :
    (t.offer f).fq.length ≤ Config.forwardQueueSize := by
  unfold Turn.offer
  split
  · simp only [List.length_append, List.length_singleton]
    omega
  · exact h

/-- Handing a reply to the turn controller. -/
theorem State.joinReplies_eq (s : State) (f : Frame) (src : ReplySource) :
    s.joinReplies f src = s.setTurn (s.turn.handed f src) := by
  unfold State.joinReplies State.commitReply State.updTurn Turn.handed State.setTurn
  congr 1
  cases hs : s.turn.state <;> cases hw : s.turn.withU <;> cases hr : s.turn.replies <;>
    simp [hs, hw, hr]

/-- A management reply for U. -/
theorem State.handReply_u (s : State) (f : Frame) (src : ReplySource) :
    s.handReply .u f src = s.setTurn (s.turn.handed f src) := s.joinReplies_eq f src

/-- The next reply outside a turn, or LISTEN. -/
theorem State.commitReply_listen (s : State) :
    (s.setTurn { s.turn with state := .listen, withU := none }).commitReply =
      s.setTurn s.turn.released := by
  unfold State.commitReply State.updTurn Turn.released State.setTurn
  congr 1
  cases hr : s.turn.replies <;> simp [hr]

/-- With the budget spent the RELEASE is committed (R159, R161). -/
theorem State.frameOpportunity_spent {s : State} (h : s.turn.budget ≤ s.turn.sent) :
    s.frameOpportunity = s.commitRelease := by
  simp [State.frameOpportunity, h]

/-- The reply list is the first source (R159). -/
theorem State.frameOpportunity_reply {s : State} (h : s.turn.sent < s.turn.budget) {r : Reply}
    {rest : List Reply} (hr : s.turn.replies = r :: rest) :
    s.frameOpportunity = s.commitTurnReply r rest := by
  simp [State.frameOpportunity, Nat.not_le_of_lt h, hr]

/-- Without a reply the slots and the forward queue are the sources (R159). -/
theorem State.frameOpportunity_queued {s : State} (h : s.turn.sent < s.turn.budget)
    (hr : s.turn.replies = []) : s.frameOpportunity = s.commitQueued := by
  simp [State.frameOpportunity, Nat.not_le_of_lt h, hr]

end Sys2Proof.Machine
end

