-- ==== Sys2Proof/Tests/Slice0.lean ====
section
/-! SUPPORT. Tests. Expected values are taken from the spec's worked cases and tables, named in each
section. The last part gives, for every statement with hypotheses, states and operands that meet them. -/

namespace Sys2Proof.Tests

open Sys2Proof Sys2Proof.Machine

set_option Elab.async false

/-! ### Helpers -/

/-- Run commands one after another. -/
def run (l : List Instr) (s : State) : State :=
  l.foldl (fun s c => match exec c s with
    | .next t => t
    | _ => s) s

/-- Everything that `State.Settled` asks, as a test. -/
def settledTest (s : State) : Bool :=
  s.running && (allPorts.all fun p => !(s.port p).settingsDue) &&
    (allPorts.all fun p => (s.port p).buffer.isNone) && !s.due.restart && (s.sdt.cells.all fun d => !d.staleDue) && decide (s.epochCount < s.config.epochLength) &&
    !s.due.silence

theorem settled_of {s : State} (h : settledTest s = true) : s.Settled := by
  simp only [settledTest, Bool.and_eq_true, Bool.not_eq_true', decide_eq_true_eq, List.all_eq_true,
    Option.isNone_iff_eq_none] at h
  obtain ⟨⟨⟨⟨⟨⟨h1, hw⟩, h2⟩, h3⟩, h4⟩, h5⟩, h6⟩ := h
  have all : ∀ p : Port, p ∈ allPorts := by
    rintro ((_ | _ | _ | _) | _) <;> simp [allPorts]
  refine ⟨by simpa [State.running] using h1, fun p => ?_, fun p => h2 p (all p), h3,
    fun sel c hc hp => ?_, h5, h6⟩
  · by_contra hn
    obtain ⟨w, hr⟩ := not_or.mp hn
    simpa [(PortRec.settingsDue_iff _).mpr ⟨w, not_not.mp hr⟩] using hw p (all p)
  · have k := h4 (s.desc sel) (Tbl.get_mem _ _)
    by_contra hl
    rw [(Descriptor.staleDue_iff _).mpr ⟨c, hc, hp, Nat.le_of_not_lt hl⟩] at k
    cases k

/-- The settled ones of a list, checked together. -/
theorem settled_each {l : List State} (h : l.all settledTest = true) : ∀ s ∈ l, s.Settled :=
  fun s m => settled_of (List.all_eq_true.mp h s m)

/-- Everything that `State.Admits` asks beyond `Settled`. -/
theorem admits_of {s : State} {p : Port} {e : Envelope} (h : settledTest s = true)
    (k : s.hears p = true ∧ (e.dstScope = .unit ∧ (p = .u → e.srcUnit = 0 ∧ e.dstUnit = s.unitNo)) ∧
      (s.port p).owed = false ∧ s.mgmt = .idle) : s.Admits p e :=
  ⟨settled_of h, k.1, k.2.1, k.2.2.1, k.2.2.2⟩

/-- A header from the supervisor to unit 1, tag 7. -/
def sup : Envelope :=
  { dstUnit := 1, dstScope := .unit, dstNode := 0, srcUnit := 0, srcScope := .unit, srcNode := 0,
    rpl := 0, tag := 7 }

/-- A header from a node. -/
def fromNode (n : BitVec 6) : Envelope := { sup with srcUnit := 9, srcNode := n }

/-- A request's operands: COMMISSION asserted, count and data as given. -/
def ask (i n : Byte) (d : List Byte) : MgmtOperand :=
  { env := sup, commission := true, index := i, count := n, data := d }

/-- The configuration of F1:12 in the worked cases of chapters 1 and 3, in mode OFF. -/
def airCfg : SensorConfig :=
  { kind := .air, zone := 2, weight := 4, mode := .off, deadband := 20, reportEnable := true,
    ext := 4114, rhOffset := 0, tOffset := -12, tLo := -1000, tHi := 4000, staleLimit := 120 }

/-- A surface probe. -/
def surfaceCfg : SensorConfig := { airCfg with kind := .surface, ext := 1, tOffset := 0 }

/-- A wetness pad. -/
def padCfg : SensorConfig := { airCfg with kind := .wetness, ext := 1, tOffset := 0 }

/-- A descriptor with a configuration, in a phase. -/
def present (c : SensorConfig) (p : Phase) : Descriptor :=
  { Descriptor.powerOn with config := some c, phase := p }

/-- The same, with a last dew point. -/
def withTd (d : Descriptor) (td : Int) : Descriptor :=
  { d with lastAir := some { e := 11675, td := td, gen := 0 } }

/-- Surface record 7 of the worked case of section 3.7: probe F1:30 = 94. -/
def record7 : SurfaceConfig :=
  { probe := 94, zone := 2, thr := 0, reportEnable := true, assoc := [76, 78, 84], wetness := none }

/-- Surface record 12: probe F1:31 = 95, pad F1:06 = 70. -/
def record12 : SurfaceConfig :=
  { record7 with probe := 95, wetness := some 70 }

/-- A surface record in use. -/
def inUse (c : SurfaceConfig) (g : Grade) (confirmed : Bool) : Surface :=
  { Surface.powerOn with config := some c, grade := g, confirmed := confirmed }

/-- A small plant on F1: air probes 76 (LIVE, 926), 78 (STALE, 1010), 84 (LIVE, 890); surface probes 94
and 95; a pad 70 that reported water; surfaces 7 and 12 in zone 2. -/
def plant : State :=
  { ((((((((State.reset.setDesc 76 (withTd (present airCfg .live) 926)).setDesc 78
      (withTd (present airCfg .stale) 1010)).setDesc 84 (withTd (present airCfg .live) 890)).setDesc 94
      (present surfaceCfg .live)).setDesc 95 (present surfaceCfg .live)).setDesc 70
      { present padCfg .live with lastWet := some .water }).setSurface 7
      (inUse record7 .clear false)).setSurface 12 (inUse record12 .wet true)).updZone 2 fun z =>
      { z with worst := some (.wet, 12) } with condense := true }

theorem plant_settled : plant.Settled := settled_of (by decide +kernel)

/-! ### Ill-formed commands -/

/-- A frame that fits on no line. -/
def tooLong : List Byte := List.replicate 49 0

theorem test_wf_null_selector_refused : (Instr.stalenessExpiry 64).wf = false := by decide
theorem test_wf_nine_cells_refused :
    (Instr.characterReceived (.floor .f0) { before := false, cells := List.replicate 9 [true] } true
      false).wf = false := by decide
theorem test_wf_character_without_start_cell_refused :
    (Instr.characterReceived .u { before := true, cells := [] } false false).wf = false := by decide
theorem test_wf_unseen_cell_refused :
    (Instr.characterReceived .u { before := true, cells := [] :: List.replicate 10 [true] } false
      false).wf = false := by decide
theorem test_wf_foreign_broadcast_refused :
    (Instr.foreignFrameIgnored { env := { sup with dstUnit := 15 }, kind := 10, payload := [] }).wf =
      false := by decide
theorem test_wf_foreign_too_long_refused :
    (Instr.foreignFrameIgnored { env := fromNode 0, kind := 10, payload := tooLong }).wf = false := by
  decide
theorem test_wf_long_sample_refused : (Instr.sample .f0 (fromNode 3) tooLong).wf = false := by decide
theorem test_wf_long_status_refused : (Instr.nodeStatus .f0 (fromNode 3) tooLong).wf = false := by
  decide
theorem test_wf_node_cmd_to_unit_refused : (Instr.nodeCmd sup []).wf = false := by decide
theorem test_wf_node_cmd_not_from_supervisor_refused :
    (Instr.nodeCmd { fromNode 0 with dstScope := .f0 } []).wf = false := by decide
theorem test_wf_misdirected_sample_refused :
    (Instr.misdirectedFrame (.floor .f0) { env := fromNode 0, kind := 1, payload := [] }).wf =
      false := by decide
theorem test_wf_misdirected_unknown_kind_refused :
    (Instr.misdirectedFrame .u { env := sup, kind := 12, payload := [] }).wf = false := by decide
theorem test_wf_known_kind_as_unknown_refused :
    (Instr.unknownKindFrame .u { env := sup, kind := 10, payload := [] }).wf = false := by decide
theorem test_wf_broadcast_grant_refused : (Instr.grant { sup with dstUnit := 15 } [4]).wf = false := by
  decide
theorem test_wf_broadcast_poll_refused : (Instr.poll { sup with dstUnit := 15 } [4]).wf = false := by
  decide
theorem test_wf_collision_beyond_frame_refused : (Instr.collision 58 { before := true, cells := List.replicate 11 [true] }).wf = false := by decide
theorem test_wf_long_request_refused :
    (Instr.read .u 1 { ask 0 1 [] with data := List.replicate 45 0 }).wf = false := by decide
theorem test_wf_request_to_scope_refused :
    (Instr.querySensor (.floor .f0) { ask 1 1 [] with env := { sup with dstScope := .f1 } }).wf =
      false := by decide
theorem test_wf_epoch_length_index_refused : (Instr.writeEpochLength .u (ask 1 1 [0, 60])).wf = false := by
  decide
theorem test_wf_silence_limit_index_refused : (Instr.writeSilenceLimit .u (ask 0 1 [10])).wf = false := by
  decide
theorem test_wf_line_settings_index_refused :
    (Instr.writeLineSettings .u (ask 3 1 [0, 0, 0, 0, 0])).wf = false := by decide
theorem test_wf_proper_request_as_malformed_refused :
    (Instr.malformedRequest .u sup true [1, 1, 1, 1]).wf = false := by decide

/-! ### Frames (R120, R128, R130, 12.2) -/

/-- R128's check value, over the ASCII digits 1 to 9. -/
theorem test_crc_check_value :
    crc16 [0x31, 0x32, 0x33, 0x34, 0x35, 0x36, 0x37, 0x38, 0x39] = 0x29B1#16 := by decide +kernel

/-- A GRANT from the supervisor to unit 3, tag 40, budget 8, written out by 12.2: start character, own unit
and scope UNIT, node, source, source node, RPL with kind 8, tag, length 1, payload. -/
def grantChars : List Byte := [0x9B, 0x30, 0x00, 0x00, 0x00, 0x08, 40, 1, 8]

theorem test_grant_is_read_from_its_characters :
    decodeFrame (grantChars ++ crcBytes grantChars.tail) =
      .good { env := { sup with dstUnit := 3, tag := 40 }, kind := 8, payload := [8] } := by
  decide +kernel

theorem test_bad_scope_is_malformed :
    decodeFrame ([0x9B, 0x36, 0, 0, 0, 0x08, 40, 0] ++ crcBytes [0x36, 0, 0, 0, 0x08, 40, 0]) =
      .badScope := by decide +kernel

/-- 0x9B has five ones: under EVEN parity its parity bit is 1 (R120). -/
theorem test_character_cells :
    characterCells .even 0x9B =
      [false, true, true, false, true, true, false, false, true, true, true] := by decide

/-! ### Lines (R120 to R124) -/

/-- What a port drives for a byte under its power-on settings. -/
def sentLine (p : Port) (b : Byte) : LineChar := charLevels p (Settings.powerOn p) b

/-- What the line shows with another level in one cell. -/
def withCell (l : LineChar) (n : Nat) (levels : List Bool) : LineChar :=
  { l with cells := l.cells.set n levels }

/-- A line that stays at the level before, with no start bit. -/
def stillLine (level : Bool) : LineChar := { before := level, cells := List.replicate 11 [level] }

/-- R121: the start cell is a pulse in its first quarter, the stop cell is dark. -/
theorem test_floor_drives_quarter_pulses :
    (sentLine (.floor .f0) 0x9B).before = false ∧
      (sentLine (.floor .f0) 0x9B).cells[0]? = some [true, false, false, false] ∧
      (sentLine (.floor .f0) 0x9B).cells[10]? = some [false, false, false, false] := by decide

/-- R124: U idles at mark, the start bit is space, the stop bit mark. -/
theorem test_u_drives_nrz :
    (sentLine .u 0x9B).before = true ∧ (sentLine .u 0x9B).cells[0]? = some [false] ∧
      (sentLine .u 0x9B).cells[10]? = some [true] := by decide

/-- R122: a pulse anywhere in a cell makes it a 0; here bit 0 of 0x9B is lost to a late pulse. -/
theorem test_pulses_are_stretched :
    readLine (.floor .f0) (Settings.powerOn (.floor .f0))
        (withCell (sentLine (.floor .f0) 0x9B) 1 [false, false, true, false]) =
      some { data := 0x9A, parityBit := true, stopBit := true } := by decide

/-- R122: a pulse of the stop cell gives a framing error, and is held only if still there at its end. -/
theorem test_pulse_in_the_stop_cell :
    let st := Settings.powerOn (.floor .f0)
    let early := withCell (sentLine (.floor .f0) 0x9B) 10 [false, true, false, false]
    let late := withCell (sentLine (.floor .f0) 0x9B) 10 [false, false, true, true]
    (readLine (.floor .f0) st early).map framingError = some true ∧ lineHeld (.floor .f0) st early = false ∧
      lineHeld (.floor .f0) st late = true := by decide

/-- R122: a pulse still present from the cell before begins no character. -/
theorem test_no_start_without_darkness :
    readLine (.floor .f0) (Settings.powerOn (.floor .f0)) { sentLine (.floor .f0) 0x9B with before := true } =
      none := by decide

/-- R124: a held space is one character of value 0 with a framing error, then nothing until mark returns. -/
theorem test_held_space_on_u :
    let held := { stillLine false with before := true }
    (readLine .u (Settings.powerOn .u) held).map RxBits.data = some 0 ∧
      (readLine .u (Settings.powerOn .u) held).map framingError = some true ∧
      readLine .u (Settings.powerOn .u) (stillLine false) = none := by decide

/-- R124, R131: with a wrong transmit inversion what U sends reads back as no character. -/
theorem test_wrong_inversion_fails_the_echo_check :
    let st := { Settings.powerOn .u with txInv := true }
    echoFails st.parity 0x9B (readLine .u st (charLevels .u st 0x9B)) = true ∧
      echoFails .even 0x9B (readLine .u (Settings.powerOn .u) (sentLine .u 0x9B)) = false := by decide

theorem test_no_word_spells_a_command : decodeTableWord 32 0 = none := rfl

/-! ### Worked cases of correction (section 1.4) -/

theorem test_current_air_probe :
    correctT 2185 (-12) = (2173, false) ∧ correctRh 4480 4114 0 = (4500, false, false) := by decide +kernel

theorem test_legacy_air_probe :
    readSample { airCfg with ext := 0 } [0, 215, 1, 197] = .reading (.air 2150 4530) ∧
      correctRh 4530 4096 (-30) = (4500, false, false) := by decide +kernel

theorem test_humidity_at_the_top : correctRh 9950 4200 50 = (10000, true, false) := by decide +kernel

/-! ### Worked cases of the engine (section 3.7), over the factory table -/

theorem test_air_sample_to_dew_point :
    saturation factoryTable 2173 = 25945 ∧ vapour 25945 4500 = 11675 ∧
      dewPoint factoryTable 11675 = (926, false) := by decide +kernel

theorem test_saturated_air :
    vapour 25945 10000 = 25945 ∧ dewPoint factoryTable 25945 = (2172, false) ∧
      saturation factoryTable 925 = 11660 ∧ dewPoint factoryTable 11660 = (925, false) := by
  decide +kernel

theorem test_limits_of_the_table :
    vapour 25945 70 = 182 ∧ dewPoint factoryTable 182 = (-4000, true) ∧
      vapour 25945 0 = 0 ∧ saturation factoryTable (-4000) = 190 ∧ vapour 190 4500 = 86 ∧
      saturation factoryTable 8500 = 586835 ∧ dewPoint factoryTable 586835 = (8500, false) := by
  decide +kernel

/-- The zone mean of section 4.10. -/
theorem test_zone_mean :
    zoneMean { swe := 70720, sw := 6, n := 2 } = 11787 ∧ dewPoint factoryTable 11787 = (941, false) := by
  decide +kernel

/-- The index NOT_COMMITTED names in section 2.7. -/
theorem test_commit_check_names_the_first_fall :
    Bank.failure (factoryTable.set 125 (factoryTable.get 124)) = some 125 ∧
      Bank.failure factoryTable = none := by decide +kernel

/-! ### The worked sequence of grades (section 5.5) -/

/-- A surface with a grade and a dwell count. -/
def graded (g : Grade) (d : Nat) : Surface := { inUse record7 g false with dwell := d }

theorem test_grades_rise_hold_and_fall :
    gradeStep .factory (graded .clear 0) 124 = (.alert, 0) ∧
      gradeStep .factory (graded .alert 0) 175 = (.alert, 0) ∧
      gradeStep .factory (graded .alert 0) 200 = (.alert, 1) ∧
      gradeStep .factory (graded .alert 2) 205 = (.watch, 0) ∧
      gradeStep .factory (graded .watch 0) 40 = (.wet, 0) ∧
      gradeStep .factory (graded .wet 1) 120 = (.wet, 2) ∧
      gradeStep .factory (graded .wet 2) 360 = (.clear, 0) ∧
      gradeStep .factory (graded .clear 0) 330 = (.clear, 0) ∧
      gradeStep .factory (graded .clear 0) 299 = (.watch, 0) := by decide

/-! ### Worked encodings -/

/-- The ZONE event of section 12.6. -/
theorem test_zone_event_bytes :
    (Event.zone 2 (.valid 11787 941) 2 (some (.alert, 7))).entry = [0x42, 0, 2, 0x63, 0x93, 0x4D] := by
  decide

/-- The read clamping of section 10.4. -/
theorem test_read_clamping :
    Table.readCount .sdt 62 5 = 2 ∧ Table.readCount .sdt 127 2 = 1 ∧
      Table.readCount .svtShadow 245 14 = 6 ∧ Table.readCount .zone 0 40 = 32 ∧
      Table.readCount .config 1 3 = 2 ∧ Table.hasIndex .sdt 64 = false := by decide

/-! ### One step each

Expected values: the worked sequences of sections 1.6, 2.7, 3.7, 4.10, 5.6, 6.10, 7.9, 8.7, 9.8, 10.4,
10.10 and 11.1, and the rules named. -/

/-- The state after one command. -/
def after (c : Instr) (s : State) : State := run [c] s

/-- A port record changed. -/
def withPort (s : State) (p : Port) (f : PortRec → PortRec) : State := s.updPort p f

/-- The plant with a job in flight. -/
def working (j : Job) : State := plant.setJob (some j)

/-- F1:12's job in the worked case of section 3.7. -/
def airJob : Job := .air 76 2173 4500 false false 0 0

/-- F1:30's job in the worked case of section 3.7. -/
def surfaceJob : Job :=
  .surface 94 1050 false 0 0 (some { surface := 7, version := 0, capture := some (926, .air) })

/-- The zone job of section 4.10. -/
def zoneJob : Job := .zone 2 { swe := 70720, sw := 6, n := 2 } 0

theorem test_sample_is_corrected_and_taken :
    let t := after (.sample .f1 (fromNode 12) [1, 0x08, 0x89, 0x11, 0x80]) plant
    t.job = some airJob ∧ (t.desc 76).lastT = some 2173 := by decide +kernel

theorem test_air_completion_accumulates :
    let t := after .airJobCompletion (working airJob)
    (t.desc 76).lastAir = some { e := 11675, td := 926, gen := 0 } ∧ (t.zone 2).swe = 46700 := by
  decide +kernel

theorem test_surface_sample_captures_the_largest_live :
    (after (.sample .f1 (fromNode 30) [2, 0x04, 0x1A]) plant).job = some surfaceJob := by decide +kernel

theorem test_surface_completion_is_alert :
    let r := (after .surfaceJobCompletion (working surfaceJob)).surface 7
    r.grade = .alert ∧ r.margin = some 124 ∧ r.changes = 1 := by decide +kernel

theorem test_zone_completion :
    ((after .zoneJobCompletion (working zoneJob)).zone 2).result = .valid 11787 941 := by decide +kernel

/-- The plant one tick before the epoch runs out, with zone 2 as in section 4.10. -/
def closing : State :=
  (plant.updZone 2 fun z => { z with swe := 70720, sw := 6, n := 2 }).setEpochCount 60

theorem test_epoch_expiry_takes_the_zone_job :
    let t := after .epochExpiry closing
    t.job = some zoneJob ∧ (t.zone 2).closed = 2 ∧ (t.zone 3).result = .none := by decide +kernel

theorem test_tick_ages_a_sensor :
    ((after .secondsTick plant).desc 76).age = 1 ∧ ((after .secondsTick plant).desc 1).age = 0 := by
  decide +kernel

theorem test_tenth_tick_makes_silence_due :
    (after .secondsTick (plant.updTurn fun t => { t with silence := 9 })).due.silence = true := by
  decide +kernel

theorem test_silence_entry_raises_link_event :
    let t := after .silenceEntry (plant.setDue { silence := true, restart := false })
    t.turn.silenceSeen = true ∧ t.turn.silent = true ∧ t.counters.reportLoss = 1 := by decide +kernel

theorem test_stale_at_its_limit :
    ((after (.stalenessExpiry 76) (plant.updDesc 76 fun d => { d with age := 120 })).desc 76).phase =
      .stale := by decide +kernel

theorem test_noise_is_counted :
    ((after (.characterReceived (.floor .f2) (sentLine (.floor .f2) 0x41) true false) plant).port
      (.floor .f2)).count.noise = 1 := by decide +kernel

theorem test_break_abandons_the_frame :
    let t := after (.breakRecognised { port := .f2, level := true }) (withPort plant (.floor .f2) fun r =>
      { r with rx := .assembling [] })
    (t.port (.floor .f2)).count.truncated = 1 ∧ (t.port (.floor .f2)).count.breaks = 1 := by decide +kernel

theorem test_gap_abandons_the_frame :
    ((after (.gapTimeout (.floor .f2)) (withPort plant (.floor .f2) fun r =>
      { r with rx := .assembling [] })).port (.floor .f2)).count.truncated = 1 := by decide +kernel

theorem test_break_end_hunts :
    ((after (.breakEnd { port := .f2, level := false }) (withPort plant (.floor .f2) fun r => { r with rx := .broken })).port
      (.floor .f2)).rx = .hunting := by decide +kernel

theorem test_los_takes_the_port_down :
    let t := after (.losAsserted .f2) plant
    (t.port (.floor .f2)).rx = .down ∧ t.slots = plant.slots := by decide +kernel

theorem test_los_released_hunts :
    ((after (.losReleased .f2) (after (.losAsserted .f2) plant)).port (.floor .f2)).rx = .hunting := by
  decide +kernel

theorem test_foreign_frames_touch_nothing :
    after (.foreignFrameIgnored { env := { sup with srcUnit := 5, dstUnit := 0 }, kind := 9, payload := [] })
      plant = plant := by decide +kernel

theorem test_broadcast_grant_is_misdirected :
    ((after (.misdirectedFrame .u { env := { sup with dstUnit := 15 }, kind := 8, payload := [4] })
      plant).port .u).router.misdirected = 1 := by decide +kernel

theorem test_code_12_is_unknown :
    ((after (.unknownKindFrame .u { env := sup, kind := 12, payload := [] }) plant).port
      .u).router.unknownKind = 1 := by decide +kernel

theorem test_node_cmd_is_sent_at_once_on_a_free_port :
    let t := after (.nodeCmd { sup with dstUnit := 15, dstScope := .allfloor } [9]) plant
    (t.port (.floor .f3)).tx =
      .sending { env := { sup with dstUnit := 15, dstScope := .allfloor }, kind := 3, payload := [9] }
        false := by decide +kernel

theorem test_node_status_joins_the_forward_queue :
    (after (.nodeStatus .f1 (fromNode 12) [5]) plant).turn.fq.length = 1 := by decide +kernel

theorem test_grant_without_traffic_commits_the_release :
    let t := after (.grant { sup with tag := 40 } [0]) plant
    (t.turn.withU.map Committed.frame) =
      some { env := { sup with srcUnit := 1, dstUnit := 0, tag := 40 }, kind := 9, payload := [1, 0, 4] } := by
  decide +kernel

theorem test_grant_offers_slot_15 :
    let t := after (.grant sup [8]) plant
    (t.slot 15).state = .sending ∧ t.turn.run = 1 := by decide +kernel

/-- R115, R193: an IDLE slot is answered with status EMPTY (9) and nothing to echo. -/
theorem test_poll_of_an_idle_slot_is_answered :
    ((after (.poll sup [9]) plant).turn.withU.map fun c => c.frame.payload) = some [0, 9, 0, 0] := by
  decide +kernel

theorem test_u_frame_sent_empties_the_slot :
    let t := run [.grant sup [1], .uTransmitStart, .uFrameSent] plant
    (t.slot 15).state = .empty ∧ (t.slot 15).sent = 1 ∧ (t.port .u).count.framesSent = 1 := by
  decide +kernel

theorem test_collision_returns_the_slot :
    let t := run [.grant sup [1], .uTransmitStart, .collision 0 (stillLine true)] plant
    (t.slot 15).state = .pending ∧ t.turn.state = .listen ∧ t.turn.collisions = 1 := by decide +kernel

theorem test_read_thr_gives_the_factory_values :
    (after (.read .u 5 (ask 0 1 [])) plant).mgmt =
      .serving (requestRecord .u sup true [1, 5, 0, 1])
        (replyTo 1 .u sup 1 0 0 1 [1, 44, 0, 150, 0, 50, 40, 3]) := by decide +kernel

theorem test_write_sdt_takes_a_new_version :
    let d := (after (.writeSdt .u (ask 76 1 (sdtWriteForm (some airCfg)))) plant).desc 76
    d.version = 1 ∧ d.phase = .awaiting ∧ d.lastAir = none := by decide +kernel

/-- Row 3 of section 10.10: WRITE SDT with COMMISSION released is DENIED. -/
theorem test_write_sdt_is_denied_without_commission :
    (after (.writeSdt .u { ask 76 1 [] with commission := false }) plant).mgmt =
      .serving (requestRecord .u sup false [2, 1, 76, 1]) (replyTo 1 .u sup 2 2 76 1 []) := by
  decide +kernel

/-- The comparison of section 5.8: WRITE restarts, EXCHANGE keeps. -/
theorem test_write_restarts_and_exchange_keeps :
    let s := plant.setSurface 7 { inUse record7 .alert false with dwell := 2, changes := 9, version := 11 }
    let data := sftWriteForm (some { record7 with thr := 3 })
    let w := (after (.writeSft .u (ask 7 1 data)) s).surface 7
    let x := (after (.exchangeSft .u (ask 7 1 data)) s).surface 7
    (w.grade = .blind ∧ w.changes = 10 ∧ w.version = 12) ∧
      (x.grade = .alert ∧ x.dwell = 2 ∧ x.changes = 9 ∧ x.version = 12) := by decide +kernel

theorem test_equal_thresholds_are_refused :
    (after (.writeThr .u (ask 2 1 [1, 44, 1, 44, 0, 50, 40, 3])) plant).thr = plant.thr ∧
      ((after (.exchangeThr .u (ask 2 1 [0, 250, 0, 120, 0, 40, 30, 4])) plant).thr.get 2) =
        { watch := 250, alert := 120, wet := 40, hyst := 30, dwell := 4 } := by decide +kernel

theorem test_write_zone_and_slot :
    ((after (.writeZone .u (ask 2 1 [3])) plant).zone 2).summary = true ∧
      ((after (.writeSlot .u (ask 3 1 [2, 0, 0, 1])) plant).slot 3).state = .empty := by decide +kernel

/-- Row 2 of section 10.10. -/
theorem test_write_epoch_length :
    let t := after (.writeEpochLength .u (ask 0 1 [0, 45])) (plant.setEpochCount 30)
    t.config.epochLength = 45 ∧ t.epochCount = 0 := by decide +kernel

theorem test_write_silence_limit :
    (after (.writeSilenceLimit .u (ask 1 1 [2])) plant).config.silenceLimit = 2 := by decide +kernel

/-- The WRITE of section 7.6: U to 230,400, F3 to parity NONE. -/
theorem test_write_line_settings_waits :
    let t := after (.writeLineSettings .u (ask 2 1 [6, 6, 6, 2, 6])) plant
    ((t.port .u).waiting.map Settings.rate) = some 2 ∧ (t.port (.floor .f3)).waiting.isSome = true ∧
      (t.port (.floor .f0)).waiting = none := by decide +kernel

theorem test_settings_take_effect_at_the_boundary :
    ((run [.writeLineSettings .u (ask 2 1 [6, 6, 6, 2, 6]), .settingsTakeEffect (.floor .f3)] plant).port
      (.floor .f3)).inForce.parity = .none := by decide +kernel

/-- R134: a character that begins after the boundary is received under the new settings. -/
theorem test_settings_precede_the_next_character :
    ((run [.writeLineSettings .u (ask 2 1 [6, 6, 6, 2, 6]),
      .characterReceived (.floor .f3) (sentLine (.floor .f3) 0x9B) false true] plant).port
      (.floor .f3)).inForce.parity = .none := by decide +kernel

/-- R119, R134: a character under way at the WRITE ends under the old settings, whatever comes meanwhile. -/
theorem test_settings_wait_for_the_character_under_way :
    let q := Port.floor .f3
    let t := run [.characterReceived q (sentLine q 0x41) false true,
      .writeLineSettings .u (ask 2 1 [6, 6, 6, 2, 6]), .secondsTick, .serviceCompletion] plant
    let u := run [.characterReceived q (sentLine q 0x41) true true] t
    (t.port q).inForce.parity = .even ∧ (u.port q).count.parityError = 0 ∧ (u.port q).count.noise = 1 ∧
      ((after .secondsTick u).port q).inForce.parity = .none := by decide +kernel

/-- The level of the request the engine holds (R176). -/
def engineLevel : Engine → Option Nat
  | .serving q _ => some q.level
  | _ => none

/-- R129, R175: a request is taken under the COMMISSION level of the character that completes it. -/
theorem test_completion_fixes_the_commission_level :
    let f := requestFrame 2 1 76 { ask 76 1 [] with commission := true }
    let s := (withPort plant .u fun r => { r with buffer := some f }).setCommission true
    engineLevel (after (.characterReceived .u (stillLine true) true false) s).mgmt = some 0 := by
  decide +kernel

/-- Section 2.7: a load of 14 entries at 240 is refused whole; one of 11 ends at E[250]. -/
theorem test_load_ends_at_the_table :
    (after (.svtLoad .u 0 (ask 240 14 (List.replicate 42 0))) plant).svt = plant.svt ∧
      (after (.svtLoad .u 0 (ask 240 11 (List.replicate 33 0))) plant).svt.shadowState = .dirty := by
  decide +kernel

theorem test_commit_and_rollback :
    let t := run [.svtCommit .u 0 (ask 0 0 []), .commitCheckCompletion] plant
    t.svt.gen = 1 ∧ t.svt.shadowState = .previous ∧ t.mgmt = .idle := by decide +kernel

theorem test_query_slot_15 :
    (after (.querySlot .u (ask 15 0 [])) plant).mgmt =
      .serving (requestRecord .u sup true [6, 4, 15, 0])
        (replyTo 1 .u sup 6 0 15 1 [3, 1, 0, 0, 0, 5, 1]) := by decide +kernel

theorem test_service_completion_hands_the_reply_over :
    let t := run [.queryUnit .u (ask 0 0 []), .serviceCompletion] plant
    t.mgmt = .idle ∧ t.turn.state = .replying := by decide +kernel

/-- CLEAR ALARM releases a line that the latch alone held (section 11.1). -/
theorem test_clear_alarm_releases_condense :
    let s := { State.reset with alarmLoss := true, condense := true }
    (after (.clearAlarm .u (ask 0 0 [])) s).condense = false := by decide +kernel

theorem test_write_config_above_2_is_bad_index :
    (after (.malformedRequest .u sup true [2, 8, 3, 1, 5]) plant).mgmt =
      .serving (requestRecord .u sup true [2, 8, 3, 1, 5]) (replyTo 1 .u sup 2 4 3 1 []) := by
  decide +kernel

theorem test_restart_takes_effect_after_its_reply :
    let t := run [.restart .u 0 (ask 0 0 []), .uTransmitStart, .uFrameSent, .restartTakesEffect] plant
    (t.desc 76).phase = .awaiting ∧ (t.desc 76).config = some airCfg ∧ t.condense = false ∧
      (t.slot 15).entries = [.start 1 true 0 false] := by decide +kernel

theorem test_power_on_from_supply_loss :
    after (.powerOn 2) (after .supplyRemoved plant) =
      after (.powerOn 2) State.reset := by decide +kernel

theorem test_reset_releases_condense :
    (after .resetAsserted plant).condense = false := by decide +kernel

/-- R129, R175: a request that waits in U's buffer keeps the level of its completion, whether the next
command is a request row that cannot arrive (F2 is DOWN) or the row of that very request. -/
theorem test_no_row_changes_a_completed_request :
    let r := { ask 76 1 [] with commission := false }
    let s := (withPort (withPort plant (.floor .f2) fun r => { r with rx := .down }) .u fun q =>
      { q with buffer := some (requestFrame 2 1 76 r) }).setCommission true
    engineLevel (after (.read (.floor .f2) 5 r) s).mgmt = some 0 ∧
      engineLevel (after (.writeSdt .u r) s).mgmt = some 0 ∧
      (after (.writeSdt .u r) s).pins.commission = false ∧ (after (.writeSdt .u r) s).turn.requestOverrun = 0 := by
  decide +kernel

/-! ### Witnesses: time, lines and router

For each statement of Certificates/Slice0/Obligations.lean that has hypotheses, `witness_<its name>` shows
states and operands that meet them, clause by clause. -/

theorem witness_StepTakesTheFrontCommand :
    State.reset.pending = [] ∧
      (State.reset.setPending [.secondsTick]).pending = Instr.secondsTick :: [] := ⟨rfl, rfl⟩

theorem witness_ResetAndSupplyLossStopThePart :
    (State.reset.setPower .inReset).power ≠ .running ∧
      (∀ straps, Instr.secondsTick ≠ .powerOn straps) ∧ Instr.secondsTick ≠ .resetAsserted ∧
      Instr.secondsTick ≠ .supplyRemoved :=
  ⟨by decide, fun _ => nofun, nofun, nofun⟩

/-- The plant with the entry into SILENT due. -/
def silenceDue : State := plant.setDue { silence := true, restart := false }

theorem witness_TickAdvancesTheTimersAndSilenceFollows :
    plant.Settled ∧ silenceDue.power = .running ∧ silenceDue.due.silence = true :=
  ⟨plant_settled, rfl, rfl⟩

/-- A sensor of the plant exactly at its limit. -/
def aged (sel : Selector) : State := plant.updDesc sel fun d => { d with age := 120 }

theorem witness_StalenessExpiryGoesStale :
    (((aged 76).desc 76).config = some airCfg ∧ ((aged 76).desc 76).phase = .live ∧
        airCfg.staleLimit ≤ ((aged 76).desc 76).age) ∧
      (((aged 94).desc 94).config = some surfaceCfg ∧ ((aged 94).desc 94).phase = .live ∧
        surfaceCfg.staleLimit ≤ ((aged 94).desc 94).age ∧
        ((aged 94).surface 7).config = some record7 ∧ record7.probe = 94) ∧
      (((aged 70).desc 70).config = some padCfg ∧ ((aged 70).desc 70).phase = .live ∧
        padCfg.staleLimit ≤ ((aged 70).desc 70).age ∧
        ((aged 70).surface 12).config = some record12 ∧ record12.wetness = some 70) ∧
      (aged 76).power = .running ∧ (aged 94).power = .running ∧ (aged 70).power = .running ∧
      airCfg.kind = .air ∧ airCfg.reportEnable = true := by decide +kernel

theorem witness_EpochExpiryClosesEveryZone :
    closing.power = .running ∧ closing.config.epochLength ≤ closing.epochCount ∧ closing.job = none ∧
      (closing.zone 2).sw ≠ 0 ∧ (closing.zone 2).overflow = false ∧
      (∀ y : Fin 32, y < 2 → closing.zoneClose.get y = none ∧ (closing.zone y).sw = 0) ∧
      (closing.setJob (some airJob)).job ≠ none ∧
      ((closing.updZone 3 fun z => { z with sw := 1, n := 1, overflow := true, summary := true }).zone
        3).overflow = true ∧
      ((closing.setSlot 0 { Slot.idle with
        binding := { SlotBinding.zero with kinds := 2 }, state := .collecting }).slot 0).state =
        .collecting := by decide +kernel

/-- A character with good EVEN parity and a stop bit. -/
def goodChar (b : Byte) : RxBits := { data := b, parityBit := oddOnes b, stopBit := true }

/-- F0 dark. -/
def darkF0 : State := withPort plant (.floor .f0) fun r => { r with rx := .down }

theorem witness_CharacterInHunting :
    darkF0.Settled ∧ darkF0.hears (.floor .f0) = false ∧ plant.Settled ∧ plant.hears .u = true ∧
      (plant.port .u).rx = .hunting ∧ (plant.port .u).held = none ∧
      (plant.port .u).reads .u (stillLine true) = none ∧
      (plant.port .u).reads .u (sentLine .u 0x9B) = some (goodChar 0x9B) ∧
      (plant.port .u).reads .u (sentLine .u 0x41) = some (goodChar 0x41) ∧
      lineHeld .u (plant.port .u).inForce (sentLine .u 0x9B) = false :=
  ⟨settled_of (by decide +kernel), by decide +kernel, plant_settled, by decide +kernel⟩

/-- F2 with characters in assembly. -/
def assembling (l : List RxChar) : State :=
  withPort plant (.floor .f2) fun r => { r with rx := .assembling l }

/-- Unmarked characters. -/
def unmarked (l : List Byte) : List RxChar := l.map fun b => { data := b, marked := false }

/-- A frame without payload to unit 1 from node 12. -/
def shortFrame : Frame := { env := fromNode 12, kind := 1, payload := [] }

/-- A frame's characters with one bit of the CRC changed. -/
def wrongCrc : List Byte := [0x9B, 0x10, 0, 0x90, 12, 0x01, 7, 0, 0, 0]

/-- A frame with scope code 6 and a right CRC. -/
def wrongScope : List Byte :=
  [0x9B, 0x36, 0, 0, 0, 0x08, 40, 0] ++ crcBytes [0x36, 0, 0, 0, 0x08, 40, 0]

theorem witness_CompletedFramesAreGoodOrCounted_first :
    let l := unmarked (wrongCrc.take 7)
    (assembling l).Settled ∧ (assembling l).hears (.floor .f2) = true ∧
      ((assembling l).port (.floor .f2)).held = none ∧
      ((assembling l).port (.floor .f2)).rx = .assembling l ∧ l.length = 7 ∧
      48 < (goodChar 49).data.toNat ∧ (l.take 6).length + 1 < 8 ∧
      ((assembling l).port (.floor .f2)).reads (.floor .f2) (sentLine (.floor .f2) 49) =
        some (goodChar 49) ∧
      lineHeld (.floor .f2) ((assembling l).port (.floor .f2)).inForce (sentLine (.floor .f2) 49) = false :=
  ⟨settled_of (by decide +kernel), by decide +kernel⟩

theorem witness_CompletedFramesAreGoodOrCounted_last :
    (assembling (unmarked ((encodeFrame shortFrame).take 9))).Settled ∧
      (unmarked (encodeFrame shortFrame)).length = 10 ∧
      ((unmarked (encodeFrame shortFrame))[7]?.map fun l => l.data.toNat) = some 0 ∧
      (∀ x ∈ unmarked (encodeFrame shortFrame), x.marked = false) ∧
      (unmarked (encodeFrame shortFrame)).map RxChar.data = encodeFrame shortFrame ∧
      decodeFrame wrongCrc = .crcMismatch ∧ wrongCrc.length = 10 ∧
      decodeFrame wrongScope = .badScope ∧ wrongScope.length = 10 :=
  ⟨settled_of (by decide +kernel), by decide +kernel⟩

/-- F2 with a held character. -/
def holding : State := withPort plant (.floor .f2) fun r =>
  { r with partWay := true, held := some { data := 0, parityBit := false, stopBit := false } }

/-- F2 in BREAK. -/
def broken : State := withPort plant (.floor .f2) fun r => { r with rx := .broken }

/-- A character of F2 with a pulse in its stop cell, at its end or before. -/
def stopPulse (late : Bool) : LineChar := withCell (sentLine (.floor .f2) 0) 10 [false, !late, late]

theorem witness_CompletedFramesAreGoodOrCounted_marked :
    let s := assembling (unmarked [0x9B])
    let st := (s.port (.floor .f2)).inForce
    let wrongParity := withCell (sentLine (.floor .f2) 0x41) 9 [false]
    s.Settled ∧ (s.port (.floor .f2)).rx = .assembling (unmarked [0x9B]) ∧
      (((s.port (.floor .f2)).reads (.floor .f2) wrongParity).map fun c => (parityError st.parity c, c.stopBit)) =
        some (true, true) ∧ lineHeld (.floor .f2) st wrongParity = false ∧
      (((s.port (.floor .f2)).reads (.floor .f2) (stopPulse false)).map fun c => (parityError st.parity c, c.stopBit)) =
        some (false, false) ∧ lineHeld (.floor .f2) st (stopPulse false) = false :=
  ⟨settled_of (by decide +kernel), by decide +kernel⟩

theorem witness_GapAndBreakAbandonTheFrame :
    (∀ s ∈ [assembling [], broken, holding, plant], s.Settled) ∧
      (((assembling []).port (.floor .f2)).rx = .assembling [] ∧
        ((assembling []).port (.floor .f2)).partWay = false ∧
        ((assembling []).port (.floor .f2)).held = none ∧ (assembling []).hears (.floor .f2) = true) ∧
      (broken.port (.floor .f2)).rx = .broken ∧
      (holding.hears (.floor .f2) = true ∧
        (holding.port (.floor .f2)).reads (.floor .f2) (stopPulse false) =
          (holding.port (.floor .f2)).held ∧ (holding.port (.floor .f2)).held.isSome = true ∧
        lineHeld (.floor .f2) (holding.port (.floor .f2)).inForce (stopPulse false) = false) ∧
      plant.hears (.floor .f2) = true ∧ (plant.port (.floor .f2)).held = none ∧
      ((plant.port (.floor .f2)).reads (.floor .f2) (stopPulse true)).isSome = true ∧
      lineHeld (.floor .f2) (plant.port (.floor .f2)).inForce (stopPulse true) = true :=
  ⟨settled_each (by decide +kernel), by decide +kernel⟩

/-- F2 sending, with a hold and a queue. -/
def busyF2 (hold : Option Frame) (queue : List Frame) : State := withPort plant (.floor .f2) fun r =>
  { r with tx := .sending shortFrame false, hold := hold, downward := queue }

theorem witness_FloorFrameSentChoosesTheNext :
    (busyF2 (some shortFrame) []).Settled ∧ (busyF2 none [shortFrame]).Settled ∧ (busyF2 none []).Settled ∧
      ((busyF2 none []).port (.floor .f2)).tx = .sending shortFrame false ∧
      ((busyF2 none []).port (.floor .f2)).rx ≠ .down :=
  ⟨settled_of (by decide +kernel), settled_of (by decide +kernel), settled_of (by decide +kernel),
    by decide +kernel⟩

theorem witness_LossOfSignalFollowsTheInput :
    plant.Settled ∧ (plant.port (.floor .f0)).rx ≠ .down ∧ darkF0.Settled ∧
      (darkF0.port (.floor .f0)).rx = .down ∧ (darkF0.port (.floor .f0)).tx = .idle ∧
      (darkF0.port (.floor .f0)).hold = none ∧ (darkF0.port (.floor .f0)).downward = [] :=
  ⟨plant_settled, by decide +kernel, settled_of (by decide +kernel), by decide +kernel⟩

/-- U with settings waiting; `owed`: the reply to their WRITE is owed. -/
def waiting (owed : Bool) : State := withPort plant .u fun r =>
  { r with waiting := some { r.inForce with rate := 2 }, settingsReply := owed }

theorem witness_SettingsTakeEffectAtABoundary :
    (waiting false).power = .running ∧
      ((waiting false).port .u).waiting = some { (plant.port .u).inForce with rate := 2 } ∧
      ((waiting false).port .u).Ready ∧
      ((waiting false).setPort .u { (waiting false).port .u with
        inForce := { (plant.port .u).inForce with rate := 2 }, waiting := none }).Settled ∧
      (waiting true).power = .running ∧ ¬ ((waiting true).port .u).Ready ∧ (plant.port .u).waiting = none := by
  simp only [PortRec.Ready]
  refine ⟨by decide +kernel, by decide +kernel, by decide +kernel, settled_of (by decide +kernel), ?_⟩
  decide +kernel

/-- U with settings waiting that turn its receive inversion, which is the wrong one for its line. -/
def turning : State := withPort plant .u fun r => { r with waiting := some { r.inForce with rxInv := true } }

/-- U once they are in force. -/
def turned : State := after (.settingsTakeEffect .u) turning

theorem witness_SettingsTakeEffectAtABoundary_turned :
    turning.power = .running ∧ (turning.port .u).waiting = some { (turning.port .u).inForce with rxInv := true } ∧
      (turning.port .u).Ready ∧ turned = turning.setPort .u
        { turning.port .u with
          inForce := { (turning.port .u).inForce with rxInv := true }, waiting := none, rxTurned := true } ∧
      turned.Settled := by
  simp only [PortRec.Ready]
  exact ⟨by decide +kernel, by decide +kernel, by decide +kernel, by decide +kernel, settled_of (by decide +kernel)⟩

/-- R124: a wrong receive inversion turns U's idle line into space, which gives one character of value 0 with a
framing error, and then nothing until the line is released. -/
theorem test_turned_idle_line_gives_one_character :
    let counts := fun s : State => ((s.port .u).count.noise, (s.port .u).count.framingError,
      (s.port .u).count.parityError)
    let still : Instr := .characterReceived .u (stillLine true) true false
    counts turned = (0, 0, 0) ∧ counts (after still turned) = (1, 1, 0) ∧
      counts (after still (after still turned)) = (1, 1, 0) := by decide +kernel

/-- R122, R123: a wrong receive inversion of a floor port turns its dark line into a pulse, whose character is
held until the BREAK. -/
theorem test_turned_dark_line_is_held :
    let s := withPort plant (.floor .f2) fun r => { r with waiting := some { r.inForce with rxInv := true } }
    ((after (.characterReceived (.floor .f2) (stillLine false) true false) s).port (.floor .f2)).held =
      some { data := 0, parityBit := false, stopBit := false } := by decide +kernel

/-- U part way through a character, with settings waiting. -/
def partWayU : State := (waiting false).updPort .u fun r => { r with partWay := true }

theorem witness_SettingsTakeEffectAtABoundary_partWay :
    partWayU.Settled ∧ (partWayU.port .u).partWay = true ∧ partWayU.hears .u = true ∧
      (partWayU.port .u).rx = .hunting ∧ (partWayU.port .u).held = none ∧
      (partWayU.port .u).waiting = some { (plant.port .u).inForce with rate := 2 } ∧
      (partWayU.port .u).reads .u (sentLine .u 0x9B) = some (goodChar 0x9B) ∧
      lineHeld .u (partWayU.port .u).inForce (sentLine .u 0x9B) = false :=
  ⟨settled_of (by decide +kernel), by decide +kernel⟩

/-- The forward queue full. -/
def fullQueue : State := plant.updTurn fun t => { t with fq := List.replicate 32 shortFrame }

theorem witness_FloorFramesAreForwardedOrCounted :
    plant.Settled ∧ plant.hears .u = true ∧ plant.hears (.floor .f1) = true ∧ plant.unitNo = 1 ∧
      (fromNode 12).srcUnit ≠ 0 ∧ (2#4 ≠ plant.unitNo ∧ 2#4 ≠ 15) ∧ 11 ≤ (11#4).toNat ∧
      (fromNode 12).srcNode ≠ 0 ∧ (fromNode 0).srcNode = 0 ∧
      (plant.desc (floorSelector .f1 12)).config ≠ none ∧
      (plant.desc (floorSelector .f1 13)).config = none ∧ plant.turn.fq.length < 32 ∧
      fullQueue.Settled ∧ 32 ≤ fullQueue.turn.fq.length :=
  ⟨plant_settled, by decide +kernel, by decide +kernel, by decide +kernel, by decide +kernel,
    by decide +kernel, by decide, by decide, by decide, by decide +kernel, by decide +kernel,
    by decide +kernel, settled_of (by decide +kernel), by decide +kernel⟩

/-- F0 dark, F1 sending with 3 frames queued, F2 sending with a full queue, F3 free. -/
def mixed : State :=
  withPort (withPort darkF0 (.floor .f1) fun r =>
    { r with tx := .sending shortFrame false, downward := List.replicate 3 shortFrame }) (.floor .f2) fun r =>
    { r with tx := .sending shortFrame false, downward := List.replicate 4 shortFrame }

theorem witness_NodeCmdIsCopiedPortByPort :
    mixed.Settled ∧ mixed.hears .u = true ∧ sup.srcUnit = 0 ∧ sup.dstUnit = mixed.unitNo ∧
      Scope.allfloor ≠ Scope.unit ∧ (mixed.port (.floor .f0)).rx = .down ∧
      ((mixed.port (.floor .f1)).downward.length < 4 ∧ (mixed.port (.floor .f1)).tx ≠ .idle) ∧
      4 ≤ (mixed.port (.floor .f2)).downward.length ∧
      ((mixed.port (.floor .f3)).rx ≠ .down ∧ (mixed.port (.floor .f3)).tx = .idle ∧
        (mixed.port (.floor .f3)).hold = none ∧ (mixed.port (.floor .f3)).downward = []) :=
  ⟨settled_of (by decide +kernel), by decide +kernel⟩

/-- One payload for each way of being another request: short, and each kind of unknown code. -/
def otherRequests : List (List Byte) :=
  [[], [1, 1, 1], [0, 1, 0, 0], [9, 1, 0, 0], [2, 0, 0, 1], [2, 2, 0, 1], [2, 9, 0, 1], [2, 8, 3, 1, 5],
   [3, 1, 0, 1], [6, 7, 0, 0], [7, 0, 0, 0]]

theorem other_requests : ∀ l ∈ otherRequests, OtherRequest l := by
  unfold OtherRequest
  decide

/-- A reply is owed on a port. -/
def owing (p : Port) : State := withPort plant p fun r => { r with owed := true }

theorem witness_RequestWhileReplyOwedIsDropped :
    (owing .u).Settled ∧ (owing .u).hears .u = true ∧ (owing .u).Addressed .u sup ∧
      ((owing .u).port .u).owed = true ∧
      (owing (.floor .f0)).Settled ∧ (owing (.floor .f0)).hears (.floor .f0) = true ∧
      (owing (.floor .f0)).Addressed (.floor .f0) sup ∧ ((owing (.floor .f0)).port (.floor .f0)).owed = true ∧
      ∀ l ∈ otherRequests, OtherRequest l :=
  ⟨settled_of (by decide +kernel), by decide +kernel, ⟨rfl, fun _ => ⟨rfl, rfl⟩⟩, by decide +kernel,
    settled_of (by decide +kernel), by decide +kernel, ⟨rfl, nofun⟩, by decide +kernel, other_requests⟩

/-- The engine busy with a request from U. -/
def serving (p : Port) : State :=
  plant.setMgmt (.serving (requestRecord p sup true [6, 6, 0, 0]) shortFrame)

theorem witness_RequestToABusyEngineIsAnsweredBusy :
    (serving .u).Settled ∧ (serving .u).hears .u = true ∧ (serving .u).Addressed .u sup ∧
      (serving .u).Addressed (.floor .f0) sup ∧ ((serving .u).port .u).owed = false ∧
      (serving .u).mgmt ≠ .idle ∧ ((serving .u).port (.floor .f0)).tx = .idle ∧
      ((busyF2 none []).setMgmt (serving .u).mgmt).Settled ∧
      (((busyF2 none []).setMgmt (serving .u).mgmt).port (.floor .f2)).tx ≠ .idle ∧
      ∀ l ∈ otherRequests, OtherRequest l :=
  ⟨settled_of (by decide +kernel), by decide +kernel, ⟨rfl, fun _ => ⟨rfl, rfl⟩⟩, ⟨rfl, nofun⟩,
    by decide +kernel, by decide +kernel, by decide +kernel, settled_of (by decide +kernel),
    by decide +kernel, other_requests⟩

/-- A short request to a busy engine is answered BUSY, its absent index and count as 0 (R173, R177). -/
theorem test_busy_engine_answers_a_short_request :
    (after (.malformedRequest .u sup true [1, 1]) (serving .u)).turn.withU.map Committed.frame =
      some (replyTo 1 .u sup 1 1 0 0 []) := by decide +kernel

/-! ### Witnesses: samples and the engine -/

theorem witness_SamplePayloadsAreReadByForm :
    (airCfg.kind = .air ∧ airCfg.ext ≠ 0) ∧ ({ airCfg with ext := 0 } : SensorConfig).ext = 0 ∧
      (surfaceCfg.kind = .surface ∧ surfaceCfg.ext ≠ 0) ∧
      ({ surfaceCfg with ext := 0 } : SensorConfig).kind = .surface ∧ padCfg.kind = .wetness := by decide

/-- F1:12 two rejections on, in a forward mode. -/
def suspectNext (m : ForwardMode) : State :=
  plant.setDesc 76 { present { airCfg with mode := m } .live with rejects := 2 }

theorem witness_RejectedSampleCountsAndSuspects :
    plant.Settled ∧ plant.hears (.floor .f1) = true ∧ (fromNode 12).srcNode ≠ 0 ∧
      (plant.desc (floorSelector .f1 12)).config = some airCfg ∧ readSample airCfg [1] = .format ∧
      readSample airCfg [129, 0, 0, 0, 0] = .fault ∧
      (readSample airCfg [1, 0x0F, 0xAD, 0, 0] = .reading (.air 4013 0) ∧
        airCfg.tHi < max (-4000) (min 8500 (4013 + airCfg.tOffset))) ∧
      (readSample surfaceCfg [2, 0xFC, 0x17] = .reading (.surface (-1001)) ∧
        max (-4000) (min 8500 (-1001 + surfaceCfg.tOffset)) < surfaceCfg.tLo) ∧
      (plant.desc (floorSelector .f1 12)).rejects < 2 :=
  ⟨plant_settled, by decide +kernel⟩

/-- The third rejection, in each forward mode. -/
theorem witness_RejectedSampleCountsAndSuspects_third :
    (∀ s ∈ [suspectNext .off, suspectNext .raw, suspectNext .enriched, suspectNext .changed], s.Settled) ∧
      ∀ m ∈ [ForwardMode.off, .raw, .enriched, .changed],
        ((suspectNext m).desc 76).config = some { airCfg with mode := m } ∧
        2 ≤ ((suspectNext m).desc 76).rejects ∧ ((suspectNext m).desc 76).phase ≠ .suspect :=
  ⟨settled_each (by decide +kernel), by decide +kernel⟩

/-- The engine busy with F1:20's job, with a queue. -/
def queued (l : List SampleJob) : State := (working (.air 84 0 0 false false 0 0)).setEvalQueue l

/-- A sample job for a selector. -/
def job (sel : Selector) : SampleJob :=
  { sel := sel, reading := .surface 1050, clamped := false, version := 0 }

/-- Jobs for 31 and for 32 selectors of F3. -/
def jobs (n : Nat) : List SampleJob := (List.range n).map fun i => job (BitVec.ofNat 8 (193 + i))

theorem witness_AirSampleIsAccepted :
    plant.Settled ∧ plant.hears (.floor .f1) = true ∧ (fromNode 12).srcNode ≠ 0 ∧
      (plant.desc (floorSelector .f1 12)).config = some airCfg ∧
      readSample airCfg [1, 0x0F, 0xAC, 0, 0] = .reading (.air 4012 0) ∧
      airCfg.tLo ≤ 4012 + airCfg.tOffset ∧ 4012 + airCfg.tOffset = airCfg.tHi ∧
      (plant.job = none ∧ plant.evalQueue = [] ∧ ∀ z : Fin 32, plant.zoneClose.get z = none) ∧
      ((queued (jobs 31)).job ≠ none ∧ (∀ x ∈ (queued (jobs 31)).evalQueue, x.sel ≠ 76) ∧
        (queued (jobs 31)).evalQueue.length = 31) ∧
      ((∀ x ∈ (queued (jobs 32)).evalQueue, x.sel ≠ 76) ∧ (queued (jobs 32)).evalQueue.length = 32) ∧
      job 76 ∈ (queued [job 76]).evalQueue :=
  ⟨plant_settled, by decide +kernel⟩

/-- F1:12 returns from STALE and from SUSPECT. -/
def recovering (p : Phase) : State := plant.updDesc 76 fun d => { d with phase := p }

theorem witness_AirSampleIsAccepted_recovery :
    (∀ s ∈ [recovering .stale, recovering .suspect], s.Settled) ∧ airCfg.reportEnable = true :=
  ⟨settled_each (by decide +kernel), rfl⟩

theorem witness_SurfaceSampleIsAccepted :
    plant.Settled ∧ plant.hears (.floor .f1) = true ∧ (fromNode 30).srcNode ≠ 0 ∧
      (plant.desc (floorSelector .f1 30)).config = some surfaceCfg ∧
      readSample surfaceCfg [2, 0xFC, 0x18] = .reading (.surface (-1000)) ∧
      surfaceCfg.tLo = -1000 + surfaceCfg.tOffset ∧ -1000 + surfaceCfg.tOffset ≤ surfaceCfg.tHi ∧
      (plant.job = none ∧ plant.evalQueue = [] ∧ ∀ z : Fin 32, plant.zoneClose.get z = none) ∧
      ((plant.surface 7).config = some record7 ∧ record7.probe = floorSelector .f1 30) ∧
      (∀ i : Fin 64, ((plant.setSurface 7 Surface.powerOn).surface i).config.map SurfaceConfig.probe ≠
        some (floorSelector .f1 30)) ∧
      (∀ j : Fin 64, j ≠ 7 → ((plant.surface j).config.map SurfaceConfig.probe) ≠ some 94) :=
  ⟨plant_settled, by decide +kernel⟩

theorem witness_WetnessSampleActsOnItsSurfaces :
    plant.Settled ∧ plant.hears (.floor .f1) = true ∧ (fromNode 6).srcNode ≠ 0 ∧
      (plant.desc (floorSelector .f1 6)).config = some padCfg ∧
      readSample padCfg [3, 1] = .reading (.wetness .water) ∧
      readSample padCfg [3, 0] = .reading (.wetness .dry) ∧
      (plant.surface 12).config = some record12 ∧ record12.wetness = some (floorSelector .f1 6) :=
  ⟨plant_settled, by decide +kernel⟩

theorem rising_head {a : SvtEntry} : ∀ {l : List SvtEntry}, rising (a :: l) = true →
    ∀ b ∈ l, a.toNat < b.toNat := by
  intro l
  induction l generalizing a with
  | nil => simp
  | cons c l ih =>
    intro h b hb
    simp only [rising, Bool.and_eq_true, decide_eq_true_eq] at h
    rcases List.mem_cons.mp hb with rfl | hb
    · exact h.1
    · exact Nat.lt_trans h.1 (ih h.2 b hb)

theorem rising_pairwise : ∀ {l : List SvtEntry}, rising l = true →
    l.Pairwise fun a b => a.toNat < b.toNat := by
  intro l
  induction l with
  | nil => simp
  | cons a l ih =>
    intro h
    refine List.pairwise_cons.mpr ⟨rising_head h, ih ?_⟩
    cases l with
    | nil => rfl
    | cons b l => simp only [rising, Bool.and_eq_true] at h; exact h.2

theorem witness_DewPointNeverExceedsTemperature :
    (∀ i j : Fin 251, i < j → (factoryTable.get i).toNat < (factoryTable.get j).toNat) ∧
      ((-4000 : Int) ≤ 8500 ∧ (10000 : Nat) ≤ 10000) :=
  ⟨fun _ _ h => List.pairwise_iff_getElem.mp
    (rising_pairwise (l := factoryTable.cells) (by decide +kernel)) _ _ _ _ h, by decide⟩

/-- The engine about to take F1:30's job, with F1:12 and F1:20 in a phase. -/
def capturing (p : Phase) : State :=
  ((plant.updDesc 76 fun d => { d with phase := p }).updDesc 84 fun d => { d with phase := p }).setEvalQueue
    [job 94]

theorem witness_DewPointCaptureIsTheLargestLive :
    (∀ z : Fin 32, (capturing .live).zoneClose.get z = none) ∧ (capturing .live).evalQueue = [job 94] ∧
      (job 94).reading = .surface 1050 ∧ ((capturing .live).surface 7).config = some record7 ∧
      record7.probe = (job 94).sel ∧
      (∀ j : Fin 64, j ≠ 7 → (((capturing .live).surface j).config.map SurfaceConfig.probe) ≠ some 94) ∧
      (((capturing .live).desc 76).lastAir.map AirResult.td) = some 926 ∧
      (∀ x ∈ record7.assoc, ((capturing .live).desc x).phase = .live →
        ∀ a ∈ ((capturing .live).desc x).lastAir, a.td ≤ 926) ∧
      (∀ x ∈ record7.assoc, ((capturing .stale).desc x).phase ≠ .live) ∧
      ((capturing .stale).zone 2).fallback = true ∧ ((capturing .stale).zone 2).result = .none ∧
      (((capturing .stale).updZone 2 fun z => { z with result := .valid 11787 941 }).zone 2).result =
        .valid 11787 941 := by decide +kernel

theorem witness_EngineTakesZonesFirst :
    ((capturing .live).setZoneClose
        (State.reset.zoneClose.set 2 (some { swe := 70720, sw := 6, n := 2 }))).zoneClose.get 2 =
        some { swe := 70720, sw := 6, n := 2 } ∧
      (∀ y : Fin 32, y < 2 → ((capturing .live).setZoneClose
        (State.reset.zoneClose.set 2 (some { swe := 70720, sw := 6, n := 2 }))).zoneClose.get y = none) ∧
      (∀ z : Fin 32, plant.zoneClose.get z = none) ∧ plant.evalQueue = [] ∧
      (queued [{ job 76 with reading := .air 2173 4500 false }]).evalQueue =
        [{ job 76 with reading := .air 2173 4500 false }] ∧
      (∀ i : Fin 64, (plant.surface i).config.map SurfaceConfig.probe ≠ some (job 193).sel) := by
  decide +kernel

/-- F1:12 in a forward mode, with the reference LIVE, 926 of section 9.8. -/
def forwarding (m : ForwardMode) : State := plant.setDesc 76
  { withTd (present { airCfg with mode := m } .live) 945 with
    forwarded := some { state := .live, value := .air (some 926) } }

theorem witness_ForwardingFollowsTheMode :
    ((forwarding .off).desc 76).config = some { airCfg with mode := .off } ∧
      ((forwarding .raw).desc 76).config = some { airCfg with mode := .raw } ∧
      ((forwarding .enriched).desc 76).config = some { airCfg with mode := .enriched } ∧
      ((forwarding .changed).desc 76).config = some { airCfg with mode := .changed } ∧
      ((forwarding .changed).desc 76).state = .live ∧ ¬ ((20 : Int) ≤ 945 - 926) ∧ (20 : Int) ≤ 946 - 926 := by
  decide +kernel

/-- CHANGED forwarding of section 9.8: a difference of 19 is not offered, one of 20 is. -/
theorem test_changed_forwarding_deadband :
    (forwarding .changed).forward 76 [] (.air (some 945)) = forwarding .changed ∧
      ((forwarding .changed).forward 76 [] (.air (some 946))).turn.fq.length = 1 := by decide +kernel

/-- R13: the rejection that moves a CHANGED sensor into SUSPECT is offered whatever the reference holds, and the next
one is not. -/
theorem test_changed_rejection_into_suspect_is_offered :
    let third := fun st : SensorState => (forwarding .changed).updDesc 76 fun d =>
      { d with rejects := 2, forwarded := some { state := st, value := .air (some 945) } }
    let rejection : Instr := .sample .f1 (fromNode 12) [1]
    (after rejection (third .live)).turn.fq.length = 1 ∧
      (after rejection (third .suspect)).turn.fq.length = 1 ∧
      (after rejection (after rejection (third .suspect))).turn.fq.length = 1 := by decide +kernel

theorem witness_AirCompletionDeliversOrDiscards :
    (working airJob).Settled ∧ (working airJob).job = some airJob ∧
      ((working airJob).desc 76).version = 0 ∧ ((working airJob).desc 76).config = some airCfg ∧
      ((working (.air 76 2173 4500 false false 0 1)).desc 76).version ≠ 1 ∧
      ((working (.air 77 2173 4500 false false 0 0)).desc 77).config = none ∧
      ((working airJob).zone 2).overflow = false ∧ airCfg.weight.val ≠ 0 :=
  ⟨settled_of (by decide +kernel), by decide +kernel⟩

theorem witness_SurfaceCompletionGradesOrDiscards :
    (working surfaceJob).Settled ∧ (working surfaceJob).job = some surfaceJob ∧
      ((working surfaceJob).desc 94).version = 0 ∧ ((working surfaceJob).surface 7).version = 0 ∧
      ((working surfaceJob).surface 7).config = some record7 ∧
      ((working surfaceJob).desc record7.probe).state = .live ∧
      ((working (.surface 94 1050 false 0 1 none)).desc 94).version ≠ 1 ∧
      ((working (.surface 94 1050 false 0 0 (some { surface := 7, version := 1, capture := none }))).surface
        7).version ≠ 1 ∧
      (((working surfaceJob).updDesc 94 fun d => { d with phase := .stale }).desc 94).state ≠ .live :=
  ⟨settled_of (by decide +kernel), by decide +kernel⟩

/-- F1:30's job bound to record 9, which is out of use with the version the job captured. -/
def outOfUse : State :=
  working (.surface 94 1050 false 0 0 (some { surface := 9, version := 0, capture := some (900, .air) }))

theorem witness_SurfaceCompletionGradesOrDiscards_outOfUse :
    outOfUse.Settled ∧ (outOfUse.desc 94).version = 0 ∧ (outOfUse.surface 9).version = 0 ∧
      (outOfUse.surface 9).config = none ∧ (outOfUse.surface 9).grade = .blind :=
  ⟨settled_of (by decide +kernel), by decide +kernel⟩

theorem witness_ZoneCompletionSetsValid :
    (working zoneJob).Settled ∧ (working zoneJob).job = some zoneJob :=
  ⟨settled_of (by decide +kernel), rfl⟩

theorem witness_GradesRiseAtOnceAndFallByDwell :
    (graded .blind 0).grade = .blind ∧ (graded .clear 0).grade ≠ .blind ∧
      (inUse record7 .wet true).confirmed = true ∧ (inUse record7 .wet false).confirmed = false ∧
      (graded .wet 1).dwell + 1 < ThrSet.factory.dwell ∧ ThrSet.factory.dwell ≤ (graded .wet 2).dwell + 1 ∧
      ThrSet.factory.Ordered := by
  refine ⟨rfl, nofun, rfl, rfl, ?_, ?_, ?_⟩ <;> simp [graded, ThrSet.Ordered, ThrSet.factory]

/-! ### Witnesses: completions, reports and the uplink -/

/-- A commit check in progress over a shadow bank. -/
def committing (b : Bank) : State :=
  (plant.setSvt { plant.svt with shadow := b }).setMgmt
    (.committing (requestRecord .u sup true [5, 0, 0, 0]))

/-- The table of section 2.7 with one error. -/
def badTable : Bank := factoryTable.set 125 (factoryTable.get 124)

theorem badTable_rises_before_124 (k l : Fin 251) (h : l.val = k.val + 1) (hk : k < 124) :
    (badTable.get k).toNat < (badTable.get l).toNat := by
  have t : ∀ i : Fin 250, i.val < 124 → (badTable.get i.castSucc).toNat < (badTable.get i.succ).toNat := by
    decide +kernel
  have k1 : k.val < 250 := by have : k.val < 124 := hk; omega
  have e : (⟨k.val, k1⟩ : Fin 250).succ = l := Fin.ext h.symm
  simpa [e] using t ⟨k.val, k1⟩ hk

theorem witness_CommitCheckSwapsOrReports :
    (committing factoryTable).Settled ∧
      (committing factoryTable).mgmt = .committing (requestRecord .u sup true [5, 0, 0, 0]) ∧
      (requestRecord .u sup true [5, 0, 0, 0]).port = .u ∧
      1 ≤ ((committing factoryTable).svt.shadow.get 0).toNat ∧
      (∀ i j : Fin 251, j.val = i.val + 1 → (factoryTable.get i).toNat < (factoryTable.get j).toNat) ∧
      ((committing (factoryTable.set 0 0)).svt.shadow.get 0).toNat = 0 ∧
      (badTable.get 125).toNat ≤ (badTable.get 124).toNat ∧ 1 ≤ (badTable.get 0).toNat ∧
      (∀ k l : Fin 251, l.val = k.val + 1 → k < 124 → (badTable.get k).toNat < (badTable.get l).toNat) :=
  ⟨settled_of (by decide +kernel), rfl, rfl, by decide +kernel,
    fun i j h => witness_DewPointNeverExceedsTemperature.1 i j (by
      have : i.val < j.val := by omega
      exact this),
    by decide +kernel, by decide +kernel, by decide +kernel, badTable_rises_before_124⟩

theorem witness_ServiceCompletionHandsTheReplyOver :
    (serving .u).Settled ∧
      (serving .u).mgmt = .serving (requestRecord .u sup true [6, 6, 0, 0]) shortFrame ∧
      (requestRecord .u sup true [6, 6, 0, 0]).port = .u ∧
      (requestRecord (.floor .f2) sup true [6, 6, 0, 0]).port ≠ .u ∧
      ((serving (.floor .f2)).port (.floor .f2)).rx ≠ .down ∧
      ((serving (.floor .f2)).port (.floor .f2)).tx = .idle ∧
      (((busyF2 none []).setMgmt (serving (.floor .f2)).mgmt).port (.floor .f2)).tx ≠ .idle ∧
      ((darkF0.setMgmt (serving (.floor .f0)).mgmt).port (.floor .f0)).rx = .down :=
  ⟨settled_of (by decide +kernel), rfl, rfl, nofun, by decide +kernel, by decide +kernel, by decide +kernel,
    by decide +kernel⟩

theorem witness_RestartKeepsTablesAndClearsLiveState :
    (plant.setDue { silence := false, restart := true }).power = .running ∧
      (plant.setDue { silence := false, restart := true }).due.restart = true ∧
      (plant.desc 76).config ≠ none ∧ (plant.port .u).rx ≠ .down ∧ (darkF0.port (.floor .f0)).rx = .down := by
  decide +kernel

/-- A GRADE slot. -/
def gradeSlot (st : SlotState) (l : List Event) : Slot :=
  { Slot.idle with binding := { SlotBinding.zero with kinds := 1 }, state := st, entries := l }

/-- A GRADE event of surface 7 entering ALERT. -/
def g7 : Event := .grade 7 .clear .alert (some 124) false false

/-- The plant with slot 0 as given. -/
def slotted (r : Slot) : State := plant.setSlot 0 r

theorem witness_EventsSupersedeOrPlaceOrAreLost :
    (((slotted (gradeSlot .pending [g7])).slot 0).state ≠ .idle ∧
        ((slotted (gradeSlot .pending [g7])).slot 0).binding.kinds.getLsbD g7.kindBit = true ∧
        g7.id &&& ((slotted (gradeSlot .pending [g7])).slot 0).binding.idMask =
          ((slotted (gradeSlot .pending [g7])).slot 0).binding.idMatch ∧
        ((slotted (gradeSlot .pending [g7])).slot 0).state = .pending ∧
        (∃ x ∈ ((slotted (gradeSlot .pending [g7])).slot 0).entries, g7.kindBit = x.kindBit ∧ g7.id = x.id)) ∧
      (((slotted (gradeSlot .empty [])).slot 0).state = .empty ∧
        ∀ j : Fin 16, (plant.slot j).binding.kinds.getLsbD g7.kindBit = false) ∧
      ((slotted (gradeSlot .collecting (List.replicate 6 (.zone 2 .none 0 none)))).slot 0).entries.length < 7 := by
  decide +kernel

/-- A turn of the plant with a budget of 8, with what else is given. -/
def inTurn (f : Turn → Turn) : State :=
  plant.updTurn fun t => f { t with state := .turn, budget := 8 }

theorem witness_FrameOpportunityChoosesTheSource :
    (inTurn fun t => { t with sent := 8 }).turn.budget ≤ (inTurn fun t => { t with sent := 8 }).turn.sent ∧
      ((slotted (gradeSlot .empty [])).setSlot 15 Slot.idle).turn.replies = [] ∧
      (∀ i : Fin 16, (((slotted (gradeSlot .empty [])).setSlot 15 Slot.idle).slot i).state ≠ .pending) ∧
      (inTurn id).turn.sent < (inTurn id).turn.budget ∧
      (inTurn fun t => { t with replies := [{ frame := shortFrame, source := .mgmt }] }).turn.replies =
        [{ frame := shortFrame, source := .mgmt }] ∧
      ((inTurn id).turn.replies = [] ∧ (inTurn id).turn.fq = [] ∧ ((inTurn id).slot 15).state = .pending ∧
        ∀ j : Fin 16, j < 15 → ((inTurn id).slot j).state ≠ .pending) ∧
      (4 ≤ (inTurn fun t => { t with run := 4, fq := [shortFrame] }).turn.run ∧
        (inTurn fun t => { t with run := 4, fq := [shortFrame] }).turn.fq = [shortFrame]) := by
  decide +kernel

/-- The plant with a frame waiting for U. -/
def committedTo (src : TxSource) : State :=
  plant.updTurn fun t => { t with state := .replying, withU := some { frame := shortFrame, source := src } }

theorem witness_GrantBeginsATurn :
    plant.Settled ∧ plant.hears .u = true ∧ sup.srcUnit = 0 ∧ sup.dstUnit = plant.unitNo ∧
      sup.dstScope = .unit ∧ plant.turn.silent = false ∧ plant.turn.withU = none ∧
      (1 ≤ min 16 (BitVec.toNat (1 : Byte)) ∧ min 16 (BitVec.toNat (0 : Byte)) = 0 ∧
        min 16 (BitVec.toNat (17 : Byte)) = 16) :=
  ⟨plant_settled, by decide +kernel⟩

/-- The plant in SILENT. -/
def silentPlant : State := plant.updTurn fun t => { t with silent := true }

/-- A GRANT finds a frame of each source waiting for U, or ends SILENT. -/
theorem witness_GrantBeginsATurn_waiting :
    (∀ s ∈ [committedTo (.reply .mgmt), committedTo (.slot 0), committedTo .forward,
      committedTo (.release true), silentPlant], s.Settled ∧ s.hears .u = true ∧ sup.dstUnit = s.unitNo) ∧
      silentPlant.turn.silent = true := by
  refine ⟨fun s m => ⟨settled_each ?_ s m, ?_⟩, rfl⟩
  · decide +kernel
  · revert s
    decide +kernel

/-- A forward frame waits for U and the queue has filled meanwhile, its newest frame `newest`. -/
def refilled (newest : Frame) : State :=
  (committedTo .forward).updTurn fun t => { t with fq := List.replicate 31 shortFrame ++ [newest] }

theorem witness_GrantBeginsATurn_full :
    (refilled shortFrame).Settled ∧ (refilled shortFrame).hears .u = true ∧
      (refilled shortFrame).turn.withU.map Committed.source = some .forward ∧
      32 ≤ (refilled shortFrame).turn.fq.length ∧ (committedTo .forward).turn.fq.length < 32 :=
  ⟨settled_of (by decide +kernel), by decide +kernel⟩

/-- R158, R165: a frame withdrawn into a full queue is its head, and the newest is dropped and counted. -/
theorem test_withdrawal_keeps_the_queue_at_32 :
    let t := (after (.grant sup [0]) (refilled { shortFrame with payload := [9] })).turn
    t.fq = List.replicate 32 shortFrame ∧ t.forwardDrop = 1 := by decide +kernel

/-- U transmits the frame it was handed. -/
def transmitting (src : TxSource) (st : TurnState) : State :=
  withPort ((committedTo src).updTurn fun t => { t with state := st }) .u fun r =>
    { r with tx := .sending shortFrame false }

/-- A source of each kind. -/
def sources : List TxSource :=
  [.reply .mgmt, .reply .pollStatus, .reply (.pollReport 3), .reply .restart, .slot 15, .forward, .release false]

theorem witness_UTransmitsAndSettlesItsSource :
    (∀ s ∈ committedTo .forward :: sources.map (transmitting · .turn) ++ sources.map (transmitting · .replying),
        s.Settled) ∧
      ((committedTo .forward).turn.withU.isSome = true ∧ ((committedTo .forward).port .u).partWay = false ∧
        ((committedTo .forward).port .u).rx = .hunting ∧ ((committedTo .forward).port .u).held = none ∧
        ((committedTo .forward).port .u).tx = .idle) ∧
      (partWayU.Settled ∧ (partWayU.port .u).partWay = true) ∧
      ∀ c ∈ sources, ((transmitting c .replying).port .u).tx = .sending shortFrame false ∧
        (transmitting c .turn).turn.withU = some { frame := shortFrame, source := c } :=
  ⟨settled_each (by decide +kernel), by decide +kernel, ⟨settled_of (by decide +kernel), by decide +kernel⟩,
    by decide +kernel⟩

theorem witness_CollisionEndsTheTurn :
    (transmitting (.slot 15) .turn).Settled ∧
      ((transmitting (.slot 15) .turn).port .u).tx = .sending shortFrame false ∧
      (transmitting (.slot 15) .turn).turn.withU = some { frame := shortFrame, source := .slot 15 } ∧
      (encodeFrame shortFrame)[0]? = some 0x9B ∧ ((encodeFrame shortFrame)[9]?).isSome = true ∧
      (let st := ((transmitting (.slot 15) .turn).port .u).inForce
       readLine .u st (stillLine true) = none ∧
        (readLine .u st (sentLine .u 0x9A)).map RxBits.data = some 0x9A ∧
        (readLine .u st (withCell (sentLine .u 0x9B) 10 [false])).map RxBits.stopBit = some false ∧
        (readLine .u st (withCell (sentLine .u 0x9B) 9 [false])).map (parityError st.parity) = some true) ∧
      ((transmitting (.slot 15) .turn).slot 15).binding.singleShot = false ∧
      ((transmitting (.slot 15) .turn).slot 15).entries ≠ [] ∧
      (∀ j : Fin 16, j ≠ 15 → ((transmitting (.slot 15) .turn).slot j).state = .idle) ∧
      (slotted (gradeSlot .pending [g7])).heldElsewhere 3 g7 = true :=
  ⟨settled_of (by decide +kernel), by decide +kernel⟩

theorem witness_PollIsAnsweredByTheSlot :
    plant.Settled ∧ plant.hears .u = true ∧ sup.srcUnit = 0 ∧ sup.dstUnit = plant.unitNo ∧
      16 ≤ (16 : Byte).toNat ∧ (15 : Byte).toNat = (15 : Fin 16).val ∧ (plant.slot 15).state = .pending ∧
      (plant.slot 15).binding.inhibit = false ∧ (plant.slot 0).state = .idle ∧
      ((slotted (gradeSlot .sending [g7])).Settled ∧
        ((slotted (gradeSlot .sending [g7])).slot 0).state = .sending) ∧
      (slotted { gradeSlot .pending [g7] with
        binding := { SlotBinding.zero with kinds := 1, inhibit := true } }).Settled :=
  ⟨plant_settled, by decide +kernel, rfl, rfl, by decide, rfl, by decide +kernel, by decide +kernel,
    by decide +kernel, ⟨settled_of (by decide +kernel), by decide +kernel⟩, settled_of (by decide +kernel)⟩

/-! ### Witnesses: requests -/

theorem plant_admits : plant.Admits .u sup :=
  ⟨plant_settled, by decide +kernel, ⟨rfl, fun _ => ⟨rfl, rfl⟩⟩, by decide +kernel, by decide +kernel⟩

theorem plant_admits_tool : plant.Admits (.floor .f0) sup :=
  ⟨plant_settled, by decide +kernel, ⟨rfl, nofun⟩, by decide +kernel, by decide +kernel⟩

theorem witness_QueriesReturnTheRecord :
    plant.Admits .u (ask 0 0 []).env ∧ (ask 0 0 []).data = [] ∧ (ask 0 0 [1]).data ≠ [] ∧
      ((255 : Byte).toNat % 64 ≠ 0 ∧ (192 : Byte).toNat % 64 = 0) ∧ (63 : Byte).toNat = (63 : Fin 64).val ∧
      64 ≤ (64 : Byte).toNat ∧ (31 : Byte).toNat = (31 : Fin 32).val ∧ 32 ≤ (32 : Byte).toNat ∧
      (15 : Byte).toNat = (15 : Fin 16).val ∧ 16 ≤ (16 : Byte).toNat ∧ (4 : Byte).toNat = (4 : Fin 5).val ∧
      5 ≤ (5 : Byte).toNat :=
  ⟨plant_admits, rfl, nofun, by decide⟩

theorem witness_ReadReturnsClampedEntries :
    plant.Admits .u (ask 62 5 []).env ∧ (ask 62 5 []).data = [] ∧ (ask 62 5 [1]).data ≠ [] ∧
      8 < (9 : Byte).toNat ∧ 1 ≤ (8 : Byte).toNat ∧ Table.ofCode 1 = some .sdt ∧ Table.ofCode 8 = some .config ∧
      ¬ (62 % 64 = 0) ∧ 64 % 64 = 0 ∧ 3 ≤ (3 : Byte).toNat ∧ (250 : Byte).toNat < 251 :=
  ⟨plant_admits, rfl, nofun, by decide⟩

theorem witness_ClearsActOnEveryInstance :
    plant.Admits .u (ask 0 0 []).env ∧ (ask 0 0 []).env.rpl.toNat ≤ 1 ∧ (ask 0 0 []).data = [] ∧
      (ask 0 0 [1]).data ≠ [] ∧ ({ sup with rpl := 2 } : Envelope).rpl.toNat ≤ 2 :=
  ⟨plant_admits, by decide, rfl, nofun, by decide⟩

theorem witness_WritesAreCheckedForCountLengthAndIndex :
    plant.Admits .u (ask 64 1 (List.replicate 16 0)).env ∧ (requestRecord .u sup true []).level ≤ 0 ∧
      (ask 64 2 []).count ≠ 1 ∧ (ask 64 1 []).data.length ≠ 16 ∧ (ask 64 1 []).count = 1 ∧
      (ask 64 1 (List.replicate 16 0)).data.length = 16 ∧ (64 : Byte).toNat % 64 = 0 ∧ 64 ≤ (64 : Byte).toNat :=
  ⟨plant_admits, by decide, by decide, by decide, rfl, rfl, by decide, by decide⟩

theorem may_change (i n : Byte) (d : List Byte) (level : Nat) : (ask i n d).MayChange .u level :=
  ⟨rfl, Nat.zero_le _, fun _ => rfl⟩

theorem witness_WriteSdtRestartsTheDescriptor :
    plant.Admits .u sup ∧ (ask 76 1 (sdtWriteForm (some airCfg))).MayChange .u 0 ∧
      (sdtWriteForm (some airCfg)).length = 16 ∧ (76 : Byte).toNat % 64 ≠ 0 ∧
      readSdtEntry (sdtWriteForm (some airCfg)) = some (some airCfg) ∧
      readSdtEntry (List.replicate 16 255) = none ∧ (plant.desc 76).config = some airCfg ∧
      (plant.desc 77).config = none ∧ (plant.desc 70).config = some padCfg ∧
      (plant.desc 94).config = some surfaceCfg ∧ (plant.surface 7).config = some record7 ∧
      (plant.surface 12).config = some record12 :=
  ⟨plant_admits, may_change _ _ _ _, by decide +kernel⟩

theorem witness_SurfaceWriteRestartsAndExchangeKeeps :
    plant.Admits .u sup ∧ (ask 7 1 (sftWriteForm (some record7))).MayChange .u 1 ∧
      (sftWriteForm (some record7)).length = 10 ∧ (7 : Byte).toNat = (7 : Fin 64).val ∧
      readSftEntry (List.replicate 10 255) = none ∧ readSftEntry (List.replicate 10 0) = some none ∧
      readSftEntry (sftWriteForm (some record7)) = some (some record7) ∧
      ((plant.desc record7.probe).config = some surfaceCfg ∧ surfaceCfg.kind = .surface) ∧
      (∀ j : Fin 64, j ≠ 7 → ((plant.surface j).config.map SurfaceConfig.probe) ≠ some record7.probe) ∧
      record7.wetness = none ∧
      (record12.wetness = some 70 ∧ (plant.desc 70).config = some padCfg ∧ padCfg.kind = .wetness ∧
        (plant.desc 70).phase = .live ∧ (plant.desc 70).lastWet = some .water) :=
  ⟨plant_admits, may_change _ _ _ _, by decide +kernel⟩

theorem witness_ThresholdWriteIsCheckedWhole :
    plant.Admits .u sup ∧ (ask 2 1 [0, 250, 0, 120, 0, 40, 30, 4]).MayChange .u 1 ∧
      (2 : Byte).toNat = (2 : Fin 8).val ∧
      ({ watch := 250, alert := 120, wet := 40, hyst := 30, dwell := 4 } : ThrSet).Ordered ∧
      ¬ ({ watch := 300, alert := 300, wet := 50, hyst := 40, dwell := 3 } : ThrSet).Ordered :=
  ⟨plant_admits, may_change _ _ _ _, rfl, by simp [ThrSet.Ordered], by simp [ThrSet.Ordered]⟩

theorem witness_ZoneAndSlotWritesSetTheirEntry :
    plant.Admits .u sup ∧ (ask 2 1 [3]).MayChange .u 1 ∧ (31 : Byte).toNat = (31 : Fin 32).val ∧
      4 ≤ (4 : Byte).toNat ∧ (3 : Byte).toNat < 4 ∧ (plant.slot 0).state = .idle ∧
      (plant.slot 15).state ≠ .idle ∧ (plant.slot 15).state ≠ .empty ∧
      (32 ≤ (32 : Byte).toNat ∧ (1 : Byte) &&& ~~~(0 : Byte) ≠ 0 ∧ 2 ≤ (2 : Byte).toNat % 64) ∧
      ((31 : Byte).toNat < 32 ∧ (1 : Byte) &&& ~~~(1 : Byte) = 0 ∧ (193 : Byte).toNat % 64 < 2) :=
  ⟨plant_admits, may_change _ _ _ _, by decide +kernel⟩

theorem witness_ConfigWritesTakeTheirEffects :
    plant.Admits .u sup ∧ (ask 0 1 [0, 10]).MayChange .u 0 ∧ (10 ≤ 0 * 256 + 10 ∧ 2 * 256 + 88 ≤ 600) ∧
      (0 * 256 + 9 < 10 ∧ 600 < 2 * 256 + 89) ∧ ((1 : Byte).toNat < 2 ∧ 60 < (61 : Byte).toNat) ∧
      (2 ≤ (2 : Byte).toNat ∧ (60 : Byte).toNat ≤ 60) ∧ readLinesEntry [6, 6, 6, 3, 5] = none ∧
      readLinesEntry (linesWriteForm linesPowerOn) = some linesPowerOn :=
  ⟨plant_admits, may_change _ _ _ _, by decide +kernel⟩

theorem witness_LoadCommitAndRestartAreTakenByTheirChecks :
    plant.Admits .u sup ∧ (ask 240 11 (List.replicate 33 0)).MayChange .u 0 ∧
      (1 ≤ (11 : Byte).toNat ∧ (11 : Byte).toNat ≤ 14 ∧ (List.replicate 33 (0 : Byte)).length = 3 * 11) ∧
      240 + 11 ≤ 251 ∧ 251 < 240 + 12 ∧ plant.job = none ∧
      (working (.air 76 2173 4500 false false 1 0)).svt.gen = 0 ∧
      (working (.air 76 2173 4500 false false 1 0)).job.map Job.gen = some 1 ∧
      (working (.air 76 2173 4500 false false 1 0)).Admits .u sup ∧ (ask 0 0 []).count = 0 ∧
      (ask 0 1 []).count ≠ 0 :=
  ⟨plant_admits, may_change _ _ _ _, by decide +kernel, by decide, by decide, by decide +kernel, by decide +kernel,
    by decide +kernel, admits_of (by decide +kernel) ⟨by decide +kernel, ⟨rfl, fun _ => ⟨rfl, rfl⟩⟩,
    by decide +kernel, by decide +kernel⟩, rfl, by decide⟩

theorem witness_MalformedRequestsAreAnsweredByStatus :
    plant.Admits .u sup ∧ ([2, 1, 0] : List Byte).length < 4 ∧ 4 ≤ ([9, 1, 0, 0] : List Byte).length ∧
      8 < (([9, 1, 0, 0] : List Byte).getD 0 0).toNat ∧ 8 < (([2, 9, 0, 0] : List Byte).getD 1 0).toNat ∧
      6 < (([6, 7, 0, 0] : List Byte).getD 1 0).toNat ∧ ([3, 1, 0, 1] : List Byte).getD 1 0 = 1 ∧
      (let write : List Byte := [2, 8, 3, 1, 5]
       2 < (write.getD 2 0).toNat ∧ (requestRecord .u sup true write).level = 0 ∧
        1 ≤ (requestRecord .u sup false write).level ∧ write.getD 3 0 = 1 ∧
        ([2, 8, 255, 2, 5] : List Byte).getD 3 0 ≠ 1) :=
  ⟨plant_admits, by decide⟩

theorem witness_TooWeakRequestsAreDenied :
    plant.Admits .u sup ∧ 1 ≤ (requestRecord .u sup false []).level ∧ 2 < (ask 3 1 [5]).index.toNat ∧
      2 ≤ (requestRecord .u { sup with rpl := 2 } true []).level ∧ plant.Admits (.floor .f0) sup ∧
      3 ≤ (requestRecord (.floor .f0) sup true []).level :=
  ⟨plant_admits, by decide, by decide, by decide, plant_admits_tool, by decide⟩

/-! ### Witnesses: encodings and laws -/

theorem witness_FramesSurviveTheLine :
    let f1 := Settings.powerOn (.floor .f1)
    ({ shortFrame with payload := List.replicate 48 1 } : Frame).payload.length ≤ 48 ∧
      (f1.parity = f1.parity ∧ f1.rxInv = f1.txInv ∧ { f1 with rxInv := true }.rxInv ≠ f1.txInv) ∧
      ((busyF2 none []).port (.floor .f2)).tx = .sending shortFrame false ∧
      (plant.port (.floor .f2)).tx = .idle ∧ [false][0]? = some false ∧
      ((stillLine true).before = !f1.rxInv ∧ (stillLine false).before = f1.rxInv) ∧
      (plant.port .u).rxTurned = false ∧
      ((turned.port .u).rxTurned = true ∧ (stillLine true).cells = [true] :: List.replicate 10 [true]) := by
  decide +kernel

theorem witness_TableEntriesSurviveTheirWriteForm :
    airCfg.valid = true ∧ assocValid record7.assoc = true ∧ record7.probe.toNat % 64 ≠ 0 ∧
      record12.wetness = some 70 ∧ (70 : Byte).toNat % 64 ≠ 0 ∧ ThrSet.factory.Ordered ∧
      SlotBinding.slot15.idMatch &&& ~~~SlotBinding.slot15.idMask = 0 ∧
      (10 ≤ plant.config.epochLength ∧ plant.config.epochLength ≤ 600 ∧ 2 ≤ plant.config.silenceLimit ∧
        plant.config.silenceLimit ≤ 60) :=
  ⟨by decide, by decide, by decide, rfl, by decide, by simp [ThrSet.Ordered, ThrSet.factory], by decide,
    by decide +kernel⟩

/-- The plant with a tick in its queue. -/
def ticking : State := plant.setPending [.secondsTick]

theorem ticking_steps : ∃ t, step ticking = .next t := ⟨_, rfl⟩

theorem ticking_surfaces : ∀ i : Fin 64, (ticking.surface i).config = none ∨
    (i = 7 ∧ (ticking.surface i).config = some record7) ∨
    (i = 12 ∧ (ticking.surface i).config = some record12) := by decide +kernel

theorem witness_StepsKeepTheTableLaws :
    ticking.ActiveRising ∧ ticking.ThresholdsOrdered ∧ ticking.ProbesUnique ∧ ∃ t, step ticking = .next t := by
  refine ⟨⟨by decide +kernel, witness_DewPointNeverExceedsTemperature.1⟩, ?_, ?_, ticking_steps⟩
  · simp only [State.ThresholdsOrdered, ThrSet.Ordered]
    decide +kernel
  · intro i j c d hc hd e
    rcases ticking_surfaces i with h | ⟨rfl, h⟩ | ⟨rfl, h⟩ <;>
      rcases ticking_surfaces j with k | ⟨rfl, k⟩ | ⟨rfl, k⟩ <;> simp_all [record7, record12]
    all_goals (subst hc hd; simp at e)

theorem witness_StepsKeepTheBounds :
    ticking.WithinBudget ∧ ticking.WeightsBounded ∧ ticking.EvalQueueSound ∧ ticking.DownwardBounded ∧
      ticking.ForwardQueueBounded ∧ ∃ t, step ticking = .next t := by
  refine ⟨by simp only [State.WithinBudget]; decide +kernel, by simp only [State.WeightsBounded]; decide +kernel,
    by simp only [State.EvalQueueSound]; decide +kernel, ?_,
    by simp only [State.ForwardQueueBounded]; decide +kernel, ticking_steps⟩
  intro p
  rcases p with (_ | _ | _ | _) | _ <;> decide +kernel

theorem witness_StepsKeepCondenseAndWorstGrades :
    ticking.CondenseFollows ∧ ticking.WorstEncoded ∧ ∃ t, step ticking = .next t := by
  have r7 : ticking.InZone 2 7 := ⟨record7, by decide +kernel, rfl⟩
  have r12 : ticking.InZone 2 12 := ⟨record12, by decide +kernel, rfl⟩
  have only : ∀ z i, ticking.InZone z i → z = 2 ∧ (i = 7 ∨ i = 12) := by
    rintro z i ⟨c, hc, rfl⟩
    rcases ticking_surfaces i with h | ⟨rfl, h⟩ | ⟨rfl, h⟩ <;> rw [h] at hc <;> cases hc <;>
      simp [record7, record12]
  refine ⟨by simp only [State.CondenseFollows]; decide +kernel, fun z => ?_, ticking_steps⟩
  have w : ∀ z : Fin 32, (ticking.zone z).worst = if z = 2 then some (.wet, 12) else none := by decide +kernel
  rw [w z]
  by_cases h : z = 2
  · subst h
    simp only [if_true]
    refine ⟨r12, by decide +kernel, fun j hj => ?_, fun j hl hj => ?_⟩
    · rcases (only _ _ hj).2 with rfl | rfl <;> decide +kernel
    · rcases (only _ _ hj).2 with rfl | rfl
      · decide +kernel
      · exact absurd hl (Nat.lt_irrefl _)
  · simp only [if_neg h]
    exact fun i hi => h (only _ _ hi).1

theorem witness_StepsKeepThePadsObeyed : ticking.PadsObeyed ∧ ∃ t, step ticking = .next t := by
  refine ⟨fun i c hc => ?_, ticking_steps⟩
  rcases ticking_surfaces i with h | ⟨rfl, h⟩ | ⟨rfl, h⟩ <;> rw [h] at hc <;> cases hc
  · exact ⟨by decide +kernel, nofun⟩
  · exact ⟨by decide +kernel, fun _ _ _ _ _ _ _ => by decide +kernel⟩

theorem witness_StepsKeepSubjectsUnique : ticking.SubjectsUnique ∧ ∃ t, step ticking = .next t := by
  have one : ∀ i : Fin 16, i = 15 ∨ (ticking.slot i).state = .idle := by decide +kernel
  have no : ∀ i : Fin 16, (ticking.slot i).state = .idle ∨ (ticking.slot i).state = .empty →
      (ticking.slot i).entries = [] := by decide +kernel
  have few : ∀ i : Fin 16, (ticking.slot i).entries.length ≤ 1 := by decide +kernel
  refine ⟨⟨fun i j hij hi hj => ?_, fun i => ?_, no, by decide +kernel, fun i => ?_⟩, ticking_steps⟩
  · rcases one i with rfl | h
    · rcases one j with rfl | h
      · exact absurd rfl hij
      · simp [Slot.Unsent, h] at hj
    · simp [Slot.Unsent, h] at hi
  · have := few i
    rcases h : (ticking.slot i).entries with _ | ⟨a, _ | ⟨b, l⟩⟩
    · simp
    · simp
    · simp [h] at this
  · exact Nat.le_trans (few i) (by decide)

end Sys2Proof.Tests
end

section
/-! PROOFS. Sensor descriptors: what reset leaves in every descriptor and in every report slot (R24, R117). -/

namespace Sys2Proof.Machine

/-- The sensor table is filled with the power-on descriptor (R24). -/
theorem State.reset_desc (sel : Selector) : State.reset.desc sel = .powerOn :=
  Tbl.get_fill Descriptor.powerOn sel.toFin

/-- Slot 15 holds the COLD START event, placed over the power-on slots (R117, R191). -/
theorem State.reset_slot_fifteen :
    State.reset.slot 15 =
      { Slot.idle with binding := .slot15, state := .pending, entries := [.start 1 false 0 true] } :=
  Tbl.get_set_same slotsPowerOn 15 _

/-- Every other slot is as at power-on (R117). -/
theorem State.reset_slot_of_ne_fifteen {i : Fin 16} (h : i ≠ 15) : State.reset.slot i = Slot.idle := by
  have atReset : State.reset.slot i = slotsPowerOn.get i := Tbl.get_set_ne slotsPowerOn _ h.symm
  have atPowerOn : slotsPowerOn.get i = (Tbl.fill 16 Slot.idle).get i := Tbl.get_set_ne _ _ h.symm
  rw [atReset, atPowerOn, Tbl.get_fill]

/-- No SENSOR event waits after reset: the one event in the slots is the COLD START. -/
theorem State.reset_slot_kindBit_ne_sensor (i : Fin 16) :
    ∀ e ∈ (State.reset.slot i).entries, e.kindBit ≠ 2 := by
  by_cases h : i = 15
  · subst h
    simp [State.reset_slot_fifteen, Event.kindBit]
  · simp [State.reset_slot_of_ne_fifteen h, Slot.idle]

/-- Settles O2: the table's fill gives the descriptors, and of the slots only slot 15 holds an event. -/
theorem resetLeavesDescriptorsVacant : Obligations.ResetLeavesDescriptorsVacant := by
  unfold Obligations.ResetLeavesDescriptorsVacant
  have counters : State.reset.counters = .zero := rfl
  refine ⟨State.reset_desc, ?_, State.reset_slot_kindBit_ne_sensor⟩
  simp [counters, UnitCounters.zero]

end Sys2Proof.Machine
end

section
/-! PROOFS. The saturation table read both ways: the stages of section 3.4 on a rising bank, and the first law of
the device (R47 to R50). -/

namespace Sys2Proof.Machine

/-! ### The entries of a rising bank -/

theorem Bank.entry_eq_get (b : Bank) (i : Fin 251) : Bank.entry b i = (b.get i).toNat := by
  have inside : i.val < b.cells.length := by rw [b.size]; exact i.isLt
  simp [Bank.entry, Tbl.get, inside]

/-- The entries of a bank rise strictly (R33). -/
def Bank.Rising (b : Bank) : Prop := ∀ i j : Fin 251, i < j → (b.get i).toNat < (b.get j).toNat

section
variable {b : Bank} (rises : Bank.Rising b)
include rises

theorem Bank.Rising.entry_lt {i j : Nat} (hij : i < j) (hj : j ≤ 250) :
    Bank.entry b i < Bank.entry b j := by
  have h := rises ⟨i, by omega⟩ ⟨j, by omega⟩ hij
  rwa [← Bank.entry_eq_get, ← Bank.entry_eq_get] at h

theorem Bank.Rising.entry_le {i j : Nat} (hij : i ≤ j) (hj : j ≤ 250) :
    Bank.entry b i ≤ Bank.entry b j := by
  rcases Nat.eq_or_lt_of_le hij with rfl | h
  · exact Nat.le_refl _
  · exact Nat.le_of_lt (rises.entry_lt h hj)

/-- An entry below a later one has the smaller index. -/
theorem Bank.Rising.lt_of_entry_lt {i j : Nat} (h : Bank.entry b i < Bank.entry b j) (hi : i ≤ 250) :
    i < j := by
  by_contra hji
  exact absurd (rises.entry_le (Nat.le_of_not_lt hji) hi) (Nat.not_le_of_lt h)

end

/-! ### Stages 1 and 2 -/

/-- Stage 1 at the top of the range reads the last entry (R47). -/
theorem saturation_top (b : Bank) : saturation b 8500 = Bank.entry b 250 := rfl

/-- Stage 1 below the top, at an index and a fraction of the 50 steps between two entries (R47). -/
theorem saturation_between (b : Bank) {i f : Nat} (hi : i < 250) (hf : f < 50) :
    saturation b (-4000 + ((50 * i + f : Nat) : Int)) =
      Bank.entry b i + (Bank.entry b (i + 1) - Bank.entry b i) * f / 50 := by
  have steps : (-4000 + ((50 * i + f : Nat) : Int) + 4000).toNat = 50 * i + f := by omega
  have index : (50 * i + f) / 50 = i := by omega
  have fraction : (50 * i + f) % 50 = f := by omega
  simp only [saturation, steps, index, fraction, if_neg (Nat.not_le_of_lt hi)]

/-- A temperature of the range is its top, or an index below 250 and a fraction of the 50 steps. -/
theorem temperature_cases {t : Int} (lo : -4000 ≤ t) (hi : t ≤ 8500) :
    t = 8500 ∨ ∃ i f : Nat, i < 250 ∧ f < 50 ∧ t = -4000 + ((50 * i + f : Nat) : Int) := by
  by_cases top : t = 8500
  · exact .inl top
  · exact .inr ⟨(t + 4000).toNat / 50, (t + 4000).toNat % 50, by omega, by omega, by omega⟩

/-- At 100 % humidity and below, the rounded vapour pressure stays within saturation (R48). -/
theorem vapour_le (es : Nat) {rh : Nat} (h : rh ≤ 10000) : vapour es rh ≤ es := by
  have scaled : es * rh ≤ es * 10000 := Nat.mul_le_mul_left es h
  unfold vapour
  omega

/-! ### Stage 3 -/

/-- The search finds nothing exactly where every entry is above. -/
theorem lastAtMost_eq_none {x : Nat} {l : List SvtEntry} {i : Nat} :
    lastAtMost x l i = none ↔ ∀ e ∈ l, x < e.toNat := by
  induction l generalizing i with
  | nil => simp [lastAtMost]
  | cons a l ih =>
    simp only [lastAtMost, List.forall_mem_cons, ← ih (i := i + 1)]
    cases lastAtMost x l (i + 1) <;> simp

/-- The search, begun at index `i`, finds the last entry that is at most `x`. -/
theorem lastAtMost_eq_some {x : Nat} {l : List SvtEntry} {i k : Nat} (h : lastAtMost x l i = some k) :
    ∃ j < l.length, k = i + j ∧ (l.getD j 0).toNat ≤ x ∧
      ∀ m, j < m → m < l.length → x < (l.getD m 0).toNat := by
  induction l generalizing i k with
  | nil => simp [lastAtMost] at h
  | cons a l ih =>
    unfold lastAtMost at h
    split at h
    · next k' found =>
      obtain ⟨j, hj, rfl, atMost, above⟩ := ih found
      obtain rfl : i + 1 + j = k := Option.some.inj h
      refine ⟨j + 1, by simpa using hj, by omega, by simpa using atMost, fun m hm hl => ?_⟩
      obtain ⟨m, rfl⟩ : ∃ m', m = m' + 1 := ⟨m - 1, by omega⟩
      simpa using above m (by omega) (by simpa using hl)
    · next missing =>
      split at h
      · next atMost =>
        refine ⟨0, by simp, by simpa using h.symm, by simpa using atMost, fun m hm hl => ?_⟩
        obtain ⟨m, rfl⟩ : ∃ m', m = m' + 1 := ⟨m - 1, by omega⟩
        have inside : m < l.length := by simpa using hl
        simpa [inside] using lastAtMost_eq_none.mp missing l[m] (List.getElem_mem inside)
      · cases h

/-- The search over a bank whose first entry is at most `x` finds the index between whose entry and the next one
`x` lies, or the last index. -/
theorem Bank.lastAtMost_between {b : Bank} {x : Nat} (h : Bank.entry b 0 ≤ x) :
    ∃ i ≤ 250, lastAtMost x b.cells 0 = some i ∧ Bank.entry b i ≤ x ∧
      (i < 250 → x < Bank.entry b (i + 1)) := by
  have length : b.cells.length = 251 := b.size
  cases found : lastAtMost x b.cells 0 with
  | none =>
    have first : b.get 0 ∈ b.cells := Tbl.get_mem b 0
    have above := lastAtMost_eq_none.mp found _ first
    rw [← Bank.entry_eq_get] at above
    exact absurd h (Nat.not_le_of_lt above)
  | some k =>
    obtain ⟨j, hj, rfl, atMost, above⟩ := lastAtMost_eq_some found
    rw [Nat.zero_add]
    exact ⟨j, by omega, rfl, atMost, fun hi => above (j + 1) (by omega) (by omega)⟩

/-- A dew point is the bottom of the range below the table, the top from the last entry on, and otherwise lies in
the interval of the two entries around the vapour pressure (R49). -/
theorem dewPoint_cases (b : Bank) (x : Nat) :
    (x < Bank.entry b 0 ∧ dewPoint b x = (-4000, true)) ∨
    (Bank.entry b 250 ≤ x ∧ dewPoint b x = (8500, false)) ∨
    ∃ i < 250, ∃ f, Bank.entry b i ≤ x ∧ x < Bank.entry b (i + 1) ∧
      f = 50 * (x - Bank.entry b i) / (Bank.entry b (i + 1) - Bank.entry b i) ∧
      dewPoint b x = (-4000 + ((50 * i + f : Nat) : Int), false) := by
  rcases Nat.lt_or_ge x (Bank.entry b 0) with below | within
  · exact .inl ⟨below, by simp [dewPoint, below]⟩
  · obtain ⟨i, hi, found, atMost, above⟩ := Bank.lastAtMost_between within
    rcases Nat.eq_or_lt_of_le hi with rfl | inner
    · exact .inr (.inl ⟨atMost, by simp [dewPoint, Nat.not_lt_of_le within, found]⟩)
    · exact .inr (.inr ⟨i, inner, _, atMost, above inner, rfl,
        by simp [dewPoint, Nat.not_lt_of_le within, found, Nat.not_le_of_lt inner]⟩)

/-- Between two entries the fraction stays below the 50 steps. -/
theorem fraction_lt {lo hi x : Nat} (h : lo ≤ x) (h' : x < hi) : 50 * (x - lo) / (hi - lo) < 50 := by
  apply Nat.div_lt_of_lt_mul
  omega

/-- R47 and R49 both truncate: the fraction read back from at most the interpolated pressure is at most the
fraction it was interpolated at. -/
theorem fraction_le {lo hi x f : Nat} (le : x ≤ lo + (hi - lo) * f / 50) :
    50 * (x - lo) / (hi - lo) ≤ f := by
  apply Nat.div_le_of_le_mul
  calc 50 * (x - lo) ≤ 50 * ((hi - lo) * f / 50) := by omega
    _ ≤ (hi - lo) * f := Nat.mul_div_le _ _

/-- Every dew point lies in the range (R50). -/
theorem dewPoint_range (b : Bank) (x : Nat) : -4000 ≤ (dewPoint b x).1 ∧ (dewPoint b x).1 ≤ 8500 := by
  rcases dewPoint_cases b x with ⟨-, h⟩ | ⟨-, h⟩ | ⟨i, hi, f, atMost, above, fraction, h⟩
  · simp [h]
  · simp [h]
  · have part : f < 50 := fraction ▸ fraction_lt atMost above
    simp only [h]
    omega

/-- Stage 1 below the top stays below the entry that ends its interval. -/
theorem saturation_lt_next {b : Bank} (rises : Bank.Rising b) {i f : Nat} (hi : i < 250) (hf : f < 50) :
    Bank.entry b i + (Bank.entry b (i + 1) - Bank.entry b i) * f / 50 < Bank.entry b (i + 1) := by
  have step : Bank.entry b i < Bank.entry b (i + 1) := rises.entry_lt (Nat.lt_succ_self i) hi
  have part : (Bank.entry b (i + 1) - Bank.entry b i) * f / 50 < Bank.entry b (i + 1) - Bank.entry b i := by
    apply Nat.div_lt_of_lt_mul
    rw [Nat.mul_comm 50]
    exact Nat.mul_lt_mul_of_pos_left hf (by omega)
  omega

/-- In a rising bank the dew point of a pressure within saturation at `t` is at most `t`: the interval found by
stage 3 is not above that of stage 1, and in the same interval both truncate (R50). -/
theorem dewPoint_le_of_le_saturation {b : Bank} (rises : Bank.Rising b) {t : Int} {x : Nat}
    (low : -4000 ≤ t) (high : t ≤ 8500) (le : x ≤ saturation b t) : (dewPoint b x).1 ≤ t := by
  rcases temperature_cases low high with rfl | ⟨i, f, hi, hf, rfl⟩
  · exact (dewPoint_range b x).2
  · rw [saturation_between b hi hf] at le
    have next : x < Bank.entry b (i + 1) := Nat.lt_of_le_of_lt le (saturation_lt_next rises hi hf)
    rcases dewPoint_cases b x with ⟨-, h⟩ | ⟨last, -⟩ | ⟨k, hk, g, atMost, above, fraction, h⟩
    · simpa [h] using low
    · have end_le : Bank.entry b (i + 1) ≤ Bank.entry b 250 := rises.entry_le hi (Nat.le_refl 250)
      omega
    · have interval : k < i + 1 := rises.lt_of_entry_lt (Nat.lt_of_le_of_lt atMost next) (by omega)
      simp only [h]
      rcases Nat.eq_or_lt_of_le (Nat.le_of_lt_succ interval) with rfl | earlier
      · have truncated : g ≤ f := fraction ▸ fraction_le le
        omega
      · have part : g < 50 := fraction ▸ fraction_lt atMost above
        omega

/-- Settles O24: the range is that of each case of stage 3; the bound is that the two truncations of a rising
bank never lead above the temperature they began at. -/
theorem dewPointNeverExceedsTemperature : Obligations.DewPointNeverExceedsTemperature := by
  unfold Obligations.DewPointNeverExceedsTemperature
  intro b rises
  refine ⟨dewPoint_range b, fun t rh lo hi humid => ?_⟩
  have within : vapour (saturation b t) rh ≤ saturation b t := vapour_le _ humid
  exact ⟨within, dewPoint_le_of_le_saturation rises lo hi within⟩

end Sys2Proof.Machine
end

section
/-! PROOFS. The take of a bound SURFACE job with its dew-point capture (R41, R42, R51). -/

namespace Sys2Proof.Machine

/-! ### What contributes -/

/-- A selector is null exactly when its node, its low six bits, is 0 (R1). -/
theorem selectorNull_eq_false_iff (sel : Selector) : selectorNull sel = false ↔ sel.toNat % 64 ≠ 0 := by
  have node : selectorNode sel = 0 ↔ sel.toNat % 64 = 0 := by
    simp [selectorNode, ← BitVec.toNat_inj]
  rw [selectorNull, decide_eq_false_iff_not, node]

/-- A selector that is not null and names a present AIR descriptor, LIVE, contributes the dew point of its last
result (R51). -/
def State.Contributes (s : State) (sel : Selector) (td : Int) : Prop :=
  sel.toNat % 64 ≠ 0 ∧ ∃ k a, (s.desc sel).config = some k ∧ k.kind = .air ∧
    (s.desc sel).phase = .live ∧ (s.desc sel).lastAir = some a ∧ a.td = td

theorem Phase.state_eq_live (p : Phase) : p.state = .live ↔ p = .live := by
  cases p <;> simp [Phase.state]

theorem State.contribution_eq_some (s : State) (sel : Selector) (td : Int) :
    s.contribution sel = some td ↔ s.Contributes sel td := by
  unfold State.contribution State.Contributes
  simp only [selectorNull_eq_false_iff]
  cases present : (s.desc sel).config with
  | none => simp [State.presentAs, present]
  | some k =>
    simp [State.presentAs, Descriptor.state, present, Phase.state_eq_live, and_assoc]

/-- What the list of associated selectors contributes. -/
theorem State.mem_contributions (s : State) (l : List Selector) (td : Int) :
    td ∈ l.filterMap s.contribution ↔ ∃ x ∈ l, s.Contributes x td := by
  simp only [List.mem_filterMap, State.contribution_eq_some]

/-! ### The capture -/

theorem largest_eq_max? (l : List Int) : largest l = l.max? := by
  cases l <;> rfl

/-- Where a selector contributes a dew point that none exceeds, that is Td_eff with source AIR (R51). -/
theorem State.capture_of_largest {s : State} {c : SurfaceConfig} {x : Selector} {td : Int}
    (hx : x ∈ c.assoc) (gives : s.Contributes x td)
    (most : ∀ y ∈ c.assoc, ∀ u, s.Contributes y u → u ≤ td) : s.capture c = some (td, .air) := by
  have max : largest (c.assoc.filterMap s.contribution) = some td := by
    rw [largest_eq_max?, List.max?_eq_some_iff]
    refine ⟨(s.mem_contributions _ _).mpr ⟨x, hx, gives⟩, fun u hu => ?_⟩
    obtain ⟨y, hy, giving⟩ := (s.mem_contributions _ _).mp hu
    exact most y hy u giving
  simp [State.capture, max]

section
variable {s : State} {c : SurfaceConfig} (silent : ∀ x ∈ c.assoc, ∀ td, ¬ s.Contributes x td)
include silent

theorem State.largest_contribution_eq_none : largest (c.assoc.filterMap s.contribution) = none := by
  rw [largest_eq_max?, List.max?_eq_none_iff, List.eq_nil_iff_forall_not_mem]
  intro td htd
  obtain ⟨x, hx, gives⟩ := (s.mem_contributions _ _).mp htd
  exact silent x hx td gives

/-- Without a contribution Td_eff is the zone's, where fallback is enabled and the zone VALID (R51). -/
theorem State.capture_of_fallback {e : Nat} {td : Int} (enabled : (s.zone c.zone).fallback = true)
    (valid : (s.zone c.zone).result = .valid e td) : s.capture c = some (td, .fallback) := by
  simp [State.capture, State.largest_contribution_eq_none silent, enabled, valid]

/-- Without a contribution and without a usable zone the capture is BLIND (R51). -/
theorem State.capture_blind
    (unusable : (s.zone c.zone).fallback = false ∨ (s.zone c.zone).result = .none ∨
      (s.zone c.zone).result = .saturated) : s.capture c = none := by
  rcases unusable with h | h | h <;> simp [State.capture, State.largest_contribution_eq_none silent, h]

end

/-! ### The binding and the take -/

/-- The selector of the one in-use record that names it binds that record (R42). -/
theorem State.binding_of_unique {s : State} {sel : Selector} {i : Fin 64} {c : SurfaceConfig}
    (config : (s.surface i).config = some c) (probe : c.probe = sel)
    (unique : ∀ (j : Fin 64) (d : SurfaceConfig), (s.surface j).config = some d → d.probe = sel → j = i) :
    s.binding sel = some { surface := i, version := (s.surface i).version, capture := s.capture c } := by
  have first : (s.probeSurfaces sel).head? = some i := by
    simp only [State.surface] at config unique
    refine Tbl.indices_head_some _ _ i (by simp [config, probe]) fun j hj => ?_
    cases named : (s.surfaces.get j).config with
    | none => rfl
    | some d => simpa using fun e : d.probe = sel => Fin.ne_of_lt hj (unique j d named e)
  simp [State.binding, first, config]

/-- With no zone waiting the engine takes the head of the evaluation queue (R41). -/
theorem State.takeJob_of_queue {s : State} {q : SampleJob} {rest : List SampleJob}
    (idle : ∀ z : Fin 32, s.zoneClose.get z = none) (queue : s.evalQueue = q :: rest) :
    s.takeJob = { s with evalQueue := rest, job := some (s.jobOf q) } := by
  have closing : s.closing = [] := by simp [State.closing, Tbl.indices, idle]
  simp [State.takeJob, closing, queue, State.setEvalQueue, State.setJob]

/-- Settles O25: the job taken carries the record's capture, whose three cases are those of the contributions and
the zone. -/
theorem dewPointCaptureIsTheLargestLive : Obligations.DewPointCaptureIsTheLargestLive := by
  unfold Obligations.DewPointCaptureIsTheLargestLive
  intro s q rest t i c idle queue reading config probe unique gives takes
  have taken : takes (s.capture c) := by
    simp only [takes, State.takeJob_of_queue idle queue, State.jobOf, reading,
      State.binding_of_unique config probe unique]
  refine ⟨fun x hx td giving most => ?_, fun silent => ⟨fun e td enabled valid => ?_, fun unusable => ?_⟩⟩
  · exact State.capture_of_largest hx giving most ▸ taken
  · exact State.capture_of_fallback silent enabled valid ▸ taken
  · exact State.capture_blind silent unusable ▸ taken

end Sys2Proof.Machine
end

section
/-! PROOFS. The CONDENSE line and the worst grades: what each of them rests on, and when it stands as its rule has it
(R71, R72, R189). -/

namespace Sys2Proof.Machine

/-! ### The states of one standing -/

/-- The same surface records are in use in both states, with the same zones and grades. -/
def State.SameGrades (s t : State) : Prop :=
  ∀ i : Fin 64, (t.surface i).config = (s.surface i).config ∧
    ((s.surface i).config ≠ none → (t.surface i).grade = (s.surface i).grade)

/-- What R71 and R189 speak of is the same in both states. -/
structure State.SameStanding (s t : State) : Prop where
  grades : s.SameGrades t
  worst : ∀ z, (t.zone z).worst = (s.zone z).worst
  power : t.power = s.power
  condense : t.condense = s.condense
  alarmLoss : t.alarmLoss = s.alarmLoss
  silent : t.turn.silent = s.turn.silent

theorem State.SameGrades.of_eq {s t : State} (h : t.surfaces = s.surfaces) : s.SameGrades t := fun i => by
  simp [State.surface, h]

/-- One record replaced by one of the same configuration and, in use, of the same grade. -/
theorem State.SameGrades.setSurface {s : State} {i : Fin 64} {r : Surface} (config : r.config = (s.surface i).config)
    (grade : r.config ≠ none → r.grade = (s.surface i).grade) : s.SameGrades (s.setSurface i r) := fun j => by
  by_cases e : j = i
  · subst e
    simpa [config] using config ▸ grade
  · simp [State.setSurface_surface_ne s r e]

theorem State.SameGrades.inZone_iff {s t : State} (h : s.SameGrades t) (z : Fin 32) (i : Fin 64) :
    t.InZone z i ↔ s.InZone z i := by
  simp [State.InZone, (h i).1]

theorem State.InZone.inUse {s : State} {z : Fin 32} {i : Fin 64} (h : s.InZone z i) : (s.surface i).config ≠ none := by
  obtain ⟨c, hc, -⟩ := h
  simp [hc]

theorem State.SameGrades.exists_iff {s t : State} (h : s.SameGrades t) (P : Grade → Prop) :
    (∃ i, (t.surface i).config ≠ none ∧ P (t.surface i).grade) ↔
      ∃ i, (s.surface i).config ≠ none ∧ P (s.surface i).grade := by
  refine exists_congr fun i => ?_
  obtain ⟨config, grade⟩ := h i
  rw [config]
  exact and_congr_right fun inUse => by rw [grade inUse]

/-! ### The CONDENSE line -/

theorem State.anySurface_iff (s : State) (gs : List Grade) :
    s.anySurface gs = true ↔ ∃ i, (s.surface i).config ≠ none ∧ (s.surface i).grade ∈ gs := by
  have graded : ∀ r : Surface, r.gradedAs gs = true ↔ r.config ≠ none ∧ r.grade ∈ gs := fun r => by
    simp [Surface.gradedAs, Option.isSome_iff_ne_none]
  simp only [State.anySurface, List.any_eq_true, graded]
  constructor
  · rintro ⟨r, hr, h⟩
    obtain ⟨i, rfl⟩ := Tbl.mem_cells s.surfaces r hr
    exact ⟨i, h⟩
  · rintro ⟨i, h⟩
    exact ⟨_, Tbl.get_mem s.surfaces i, h⟩

/-- Where the line has just been evaluated, it is as R189 has it. -/
theorem State.condenseFollows_of_eq {s : State} (h : s.condense = s.condenseDue) : s.CondenseFollows := fun _ => by
  simp [h, State.condenseDue, State.anySurface_iff, or_assoc]

theorem State.evalCondense_condenseFollows (s : State) : s.evalCondense.CondenseFollows :=
  State.condenseFollows_of_eq rfl

theorem State.condenseFollows_of_stopped {s : State} (h : s.power ≠ .running) : s.CondenseFollows :=
  fun runs => absurd runs h

theorem State.SameStanding.condenseFollows {s t : State} (h : s.SameStanding t) (follows : s.CondenseFollows) :
    t.CondenseFollows := fun runs => by
  rw [h.condense, h.alarmLoss, h.silent, h.grades.exists_iff (· = .wet),
    h.grades.exists_iff (fun g => g = .alert ∨ g = .wet)]
  exact follows (h.power ▸ runs)

/-! ### The worst grade of a list of surfaces -/

/-- R71 for one zone: `w` is the worst grade and surface of the zone's in-use surfaces. -/
def State.WorstIs (s : State) (z : Fin 32) (w : Option (Grade × Fin 64)) : Prop :=
  match w with
  | none => ∀ i, ¬ s.InZone z i
  | some (g, i) => s.InZone z i ∧ (s.surface i).grade = g ∧
      (∀ j, s.InZone z j → (s.surface j).grade.zoneRank ≤ g.zoneRank) ∧
      ∀ j, j < i → s.InZone z j → (s.surface j).grade ≠ g

/-- The zone's worst grade and surface stand as R71 has them. -/
structure State.WorstAt (s : State) (z : Fin 32) : Prop where
  stands : s.WorstIs z (s.zone z).worst

theorem State.worstEncoded_iff (s : State) : s.WorstEncoded ↔ ∀ z, s.WorstAt z :=
  ⟨fun h z => ⟨h z⟩, fun h z => (h z).stands⟩

theorem State.WorstIs.congr {s t : State} {z : Fin 32} {w : Option (Grade × Fin 64)}
    (inZone : ∀ i, t.InZone z i ↔ s.InZone z i)
    (grade : ∀ i, s.InZone z i → (t.surface i).grade = (s.surface i).grade) (h : s.WorstIs z w) :
    t.WorstIs z w := by
  match w, h with
  | none, h => exact fun i => (inZone i).not.mpr (h i)
  | some (g, i), ⟨member, holds, worst, lowest⟩ =>
    refine ⟨(inZone i).mpr member, (grade i member).trans holds, fun j hj => ?_, fun j less hj => ?_⟩
    · have inS := (inZone j).mp hj
      exact grade j inS ▸ worst j inS
    · have inS := (inZone j).mp hj
      exact grade j inS ▸ lowest j less inS

theorem State.WorstAt.of_sameGrades {s t : State} {z : Fin 32} (grades : s.SameGrades t)
    (worst : (t.zone z).worst = (s.zone z).worst) (h : s.WorstAt z) : t.WorstAt z where
  stands := worst ▸ h.stands.congr (grades.inZone_iff z) fun i hi => (grades i).2 hi.inUse

theorem State.inZone_iff (s : State) (z : Fin 32) (i : Fin 64) : s.InZone z i ↔ (s.surface i).inZone z = true := by
  unfold State.InZone Surface.inZone
  cases (s.surface i).config <;> simp

/-- `w` is the worst of the grades that `grade` gives the members of a list, with the lowest member that holds it. -/
def WorstOfList (grade : Fin 64 → Grade) (l : List (Fin 64)) (w : Option (Grade × Fin 64)) : Prop :=
  match w with
  | none => l = []
  | some (g, i) => i ∈ l ∧ grade i = g ∧ (∀ j ∈ l, (grade j).zoneRank ≤ g.zoneRank) ∧ ∀ j ∈ l, j < i → grade j ≠ g

theorem worseOf_some (h g : Grade) (j i : Fin 64) :
    worseOf (some (h, j)) g i = if h.zoneRank < g.zoneRank then some (g, i) else some (h, j) := rfl

/-- A later member takes over where its grade is the worse one (R71). -/
theorem WorstOfList.append {grade : Fin 64 → Grade} {l : List (Fin 64)} {w : Option (Grade × Fin 64)} {k : Fin 64}
    (h : WorstOfList grade l w) (last : ∀ j ∈ l, j < k) :
    WorstOfList grade (l ++ [k]) (worseOf w (grade k) k) := by
  match w, h with
  | none, h =>
    obtain rfl : l = [] := h
    simp [worseOf, WorstOfList]
  | some (g, i), ⟨member, holds, worst, lowest⟩ =>
    by_cases worse : g.zoneRank < (grade k).zoneRank
    · rw [worseOf_some, if_pos worse]
      refine ⟨by simp, rfl, ?_, ?_⟩
      · simp only [List.forall_mem_append, List.forall_mem_singleton, Nat.le_refl, and_true]
        exact fun j hj => Nat.le_of_lt (Nat.lt_of_le_of_lt (worst j hj) worse)
      · simp only [List.forall_mem_append, List.forall_mem_singleton, Fin.lt_irrefl, false_implies,
          and_true]
        exact fun j hj _ same => absurd (same ▸ worst j hj) (Nat.not_le_of_lt worse)
    · rw [worseOf_some, if_neg worse]
      refine ⟨by simp [member], holds, ?_, ?_⟩
      · simp only [List.forall_mem_append, List.forall_mem_singleton]
        exact ⟨worst, Nat.le_of_not_lt worse⟩
      · simp only [List.forall_mem_append, List.forall_mem_singleton]
        exact ⟨lowest, fun less => absurd less (Nat.lt_asymm (last i member))⟩

theorem worstOfList_foldl (grade : Fin 64 → Grade) (l : List (Fin 64)) (ascending : l.Pairwise (· < ·)) :
    WorstOfList grade l (l.foldl (fun a i => worseOf a (grade i) i) none) := by
  induction l using List.reverseRecOn with
  | nil => rfl
  | append_singleton l k ih =>
    obtain ⟨before, -, last⟩ := List.pairwise_append.mp ascending
    rw [List.foldl_append]
    exact (ih before).append fun j hj => last j hj k (by simp)

/-- The encoder finds what R71 asks for. -/
theorem State.worstIs_worstOf (s : State) (z : Fin 32) : s.WorstIs z (s.worstOf z) := by
  have ascending : (s.surfaces.indices fun r => r.inZone z).Pairwise (· < ·) :=
    (List.sortedLT_finRange 64).pairwise.filter _
  have member : ∀ i, i ∈ s.surfaces.indices (fun r => r.inZone z) ↔ s.InZone z i := fun i => by
    simp [State.inZone_iff, State.surface]
  have found := worstOfList_foldl (fun i => (s.surface i).grade) _ ascending
  change WorstOfList _ _ (s.worstOf z) at found
  match s.worstOf z, found with
  | none, empty =>
    intro i hi
    rw [← member, (empty : _ = [])] at hi
    exact absurd hi List.not_mem_nil
  | some (g, i), ⟨inList, holds, worst, lowest⟩ =>
    exact ⟨(member i).mp inList, holds, fun j hj => worst j ((member j).mpr hj),
      fun j less hj => lowest j ((member j).mpr hj) less⟩

end Sys2Proof.Machine
end

section
/-! PROOFS. The calculus of "keeps the CONDENSE line and the worst grades", and the operations that re-evaluate them:
reports, grade changes, stored surface records, the alarm-loss latch, SILENT (R71, R72, R96, R189). -/

namespace Sys2Proof.Machine

/-! ### The calculus -/

/-- Where the line is as R189 has it in `s` it is so in `t`, and where a zone's worst grade is as R71 has it in `s` it
is so in `t`. -/
structure State.Keeps (s t : State) : Prop where
  line : s.CondenseFollows → t.CondenseFollows
  worst : ∀ z, s.WorstAt z → t.WorstAt z

theorem State.Keeps.refl (s : State) : s.Keeps s := ⟨id, fun _ => id⟩

theorem State.Keeps.trans {s t u : State} (h : s.Keeps t) (k : t.Keeps u) : s.Keeps u :=
  ⟨k.line ∘ h.line, fun z => k.worst z ∘ h.worst z⟩

theorem State.SameStanding.keeps {s t : State} (h : s.SameStanding t) : s.Keeps t :=
  ⟨h.condenseFollows, fun z => .of_sameGrades h.grades (h.worst z)⟩

/-- The fields that R71 and R189 speak of. -/
def standingFields : List Field := [.power, .zones, .surfaces, .alarmLoss, .turn, .condense]

/-- What changes none of those fields keeps both. -/
theorem State.Changes.keeps {s t : State} {fs : List Field} (h : s.Changes t fs)
    (apart : ∀ f ∈ standingFields, f ∉ fs) : s.Keeps t := by
  have zones : t.zones = s.zones := h .zones (apart _ (by decide))
  have surfaces : t.surfaces = s.surfaces := h .surfaces (apart _ (by decide))
  have turn : t.turn = s.turn := h .turn (apart _ (by decide))
  exact State.SameStanding.keeps
    { grades := .of_eq surfaces
      worst := fun z => by simp [State.zone, zones]
      power := h .power (apart _ (by decide))
      condense := h .condense (apart _ (by decide))
      alarmLoss := h .alarmLoss (apart _ (by decide))
      silent := by rw [turn] }

theorem State.Keeps.changes {s t u : State} {fs : List Field} (h : s.Keeps t) (k : t.Changes u fs)
    (apart : ∀ f ∈ standingFields, f ∉ fs) : s.Keeps u := h.trans (k.keeps apart)

theorem State.Keeps.foldl {α : Type} {f : State → α → State} {s t : State} (h : s.Keeps t)
    (each : ∀ (u : State) (a : α), u.Keeps (f u a)) (l : List α) : s.Keeps (l.foldl f t) := by
  induction l generalizing t with
  | nil => exact h
  | cons a l ih => exact ih (h.trans (each t a))

/-- A change of the turn controller that leaves SILENT. -/
theorem State.Keeps.updTurn {s t : State} (h : s.Keeps t) (f : Turn → Turn)
    (silent : (f t.turn).silent = t.turn.silent) : s.Keeps (t.updTurn f) :=
  h.trans (State.SameStanding.keeps ⟨.of_eq rfl, fun _ => rfl, rfl, rfl, rfl, silent⟩)

/-- A change of a zone record that leaves its worst grade and surface. -/
theorem State.Keeps.setZone {s t : State} (h : s.Keeps t) (z : Fin 32) (r : Zone)
    (worst : r.worst = (t.zone z).worst) : s.Keeps (t.setZone z r) := by
  refine h.trans (State.SameStanding.keeps ⟨.of_eq rfl, fun y => ?_, rfl, rfl, rfl, rfl⟩)
  by_cases e : y = z
  · subst e
    simpa using worst
  · rw [State.setZone_zone_ne t r e]

/-! ### Setters of what the two do not rest on -/

section
variable {s t : State} (h : s.Keeps t)
include h

theorem State.Keeps.setSdt (v : Tbl 256 Descriptor) : s.Keeps (t.setSdt v) :=
  h.changes (t.setSdt_changes v) (by decide)

theorem State.Keeps.setDesc (sel : Selector) (d : Descriptor) : s.Keeps (t.setDesc sel d) :=
  h.changes (t.setDesc_changes sel d) (by decide)

theorem State.Keeps.updDesc (sel : Selector) (f : Descriptor → Descriptor) : s.Keeps (t.updDesc sel f) :=
  h.changes (t.updDesc_changes sel f) (by decide)

theorem State.Keeps.setSvt (v : Svt) : s.Keeps (t.setSvt v) := h.changes (t.setSvt_changes v) (by decide)

theorem State.Keeps.setEvalQueue (v : List SampleJob) : s.Keeps (t.setEvalQueue v) :=
  h.changes (t.setEvalQueue_changes v) (by decide)

theorem State.Keeps.setEpochCount (n : Nat) : s.Keeps (t.setEpochCount n) :=
  h.changes (t.setEpochCount_changes n) (by decide)

theorem State.Keeps.setThr (v : Tbl 8 ThrSet) : s.Keeps (t.setThr v) := h.changes (t.setThr_changes v) (by decide)

theorem State.Keeps.setSlots (v : Tbl 16 Slot) : s.Keeps (t.setSlots v) :=
  h.changes (t.setSlots_changes v) (by decide)

theorem State.Keeps.setSlot (i : Fin 16) (r : Slot) : s.Keeps (t.setSlot i r) :=
  h.changes (t.setSlot_changes i r) (by decide)

theorem State.Keeps.setCounters (v : UnitCounters) : s.Keeps (t.setCounters v) :=
  h.changes (t.setCounters_changes v) (by decide)

theorem State.Keeps.count (f : UnitCounters → UnitCounters) : s.Keeps (t.count f) :=
  h.changes (t.count_changes f) (by decide)

theorem State.Keeps.setMgmt (v : Engine) : s.Keeps (t.setMgmt v) := h.changes (t.setMgmt_changes v) (by decide)

theorem State.Keeps.setConfig (v : UnitConfig) : s.Keeps (t.setConfig v) :=
  h.changes (t.setConfig_changes v) (by decide)

theorem State.Keeps.setPorts (v : Tbl 5 PortRec) : s.Keeps (t.setPorts v) :=
  h.changes (t.setPorts_changes v) (by decide)

theorem State.Keeps.updPort (p : Port) (f : PortRec → PortRec) : s.Keeps (t.updPort p f) :=
  h.changes (t.updPort_changes p f) (by decide)

theorem State.Keeps.setDue (v : Due) : s.Keeps (t.setDue v) := h.changes (t.setDue_changes v) (by decide)

end

/-! ### The line evaluated again -/

/-- With its surfaces and zones untouched a state keeps the worst grades. -/
theorem State.Changes.worstAt {s t : State} {fs : List Field} (h : s.Changes t fs) (surfaces : .surfaces ∉ fs)
    (zones : .zones ∉ fs) {z : Fin 32} (k : s.WorstAt z) : t.WorstAt z := by
  have same : t.zones = s.zones := h .zones zones
  exact k.of_sameGrades (.of_eq (h .surfaces surfaces)) (by simp [State.zone, same])

/-- Whatever leaves surfaces and zones alone and ends in an evaluation of the line keeps both (R189). -/
theorem State.Changes.keeps_evalCondense {s t : State} {fs : List Field} (h : s.Changes t fs)
    (surfaces : .surfaces ∉ fs) (zones : .zones ∉ fs) : s.Keeps t.evalCondense where
  line _ := t.evalCondense_condenseFollows
  worst _ k := t.evalCondense_changes.worstAt (by decide) (by decide) (h.worstAt surfaces zones k)

theorem State.loseEvent_keeps (s : State) (e : Event) : s.Keeps (s.loseEvent e) := by
  have counted : s.Keeps (s.count fun c => { c with reportLoss := satInc c.reportLoss }) :=
    (s.count_changes _).keeps (by decide)
  unfold State.loseEvent
  dsimp only
  split
  · exact counted.trans ((State.setAlarmLoss_changes _ _).keeps_evalCondense (by decide) (by decide))
  · exact counted

/-- A lost alarm sets the latch, and the line follows it; no other outcome of raising an event touches them
(R104 to R106, R189). -/
theorem State.Keeps.raise {s t : State} (h : s.Keeps t) (e : Event) : s.Keeps (t.raise e) := by
  refine h.trans ?_
  unfold State.raise
  split
  · exact (t.setSlot_changes _ _).keeps (by decide)
  · split
    · exact (t.setSlot_changes _ _).keeps (by decide)
    · exact t.loseEvent_keeps e

theorem State.Keeps.raiseStart {s t : State} (h : s.Keeps t) (warm : Bool) : s.Keeps (t.raiseStart warm) := h.raise _

theorem State.Keeps.raiseDark {s t : State} (h : s.Keeps t) : s.Keeps t.raiseDark :=
  h.foldl (fun u p => by
    split
    · exact .refl u
    · exact (State.Keeps.refl u).raise _) floorPorts

theorem State.Keeps.raiseZone {s t : State} (h : s.Keeps t) (z : Fin 32) : s.Keeps (t.raiseZone z) := by
  unfold State.raiseZone
  dsimp only
  split
  · exact h.raise _
  · exact h

theorem State.Keeps.raiseSensor {s t : State} (h : s.Keeps t) (sel : Selector) (left : SensorState) :
    s.Keeps (t.raiseSensor sel left) := by
  unfold State.raiseSensor
  dsimp only
  split
  · exact h
  · split
    · exact h.raise _
    · exact h

theorem State.Keeps.clearAlarm {s t : State} (h : s.Keeps t) : s.Keeps t.clearAlarm :=
  h.trans ((t.setAlarmLoss_changes _).keeps_evalCondense (by decide) (by decide))

/-- A change of SILENT with its LINK event, after which the line is evaluated again (R158, R163, R189). -/
theorem State.Changes.raise_evalCondense_keeps {s t : State} (h : s.Changes t [.turn, .due]) (e : Event) :
    s.Keeps (t.raise e).evalCondense :=
  have touched : s.Changes (t.raise e) (.turn :: .due :: reportFields) :=
    h.step (t.raise_changes e) (by decide) (by decide)
  touched.keeps_evalCondense (by decide) (by decide)

theorem State.Keeps.endSilence {s t : State} (h : s.Keeps t) : s.Keeps t.endSilence := by
  unfold State.endSilence
  split
  · exact h.trans (((t.updTurn_changes _).mono (by decide)).raise_evalCondense_keeps _)
  · exact h

theorem State.Keeps.enterSilent {s t : State} (h : s.Keeps t) : s.Keeps t.enterSilent :=
  h.trans (((t.updTurn_changes _).step (State.setDue_changes _ _) (by decide) (by decide)).raise_evalCondense_keeps _)

/-! ### Worst grades encoded again -/

/-- Encoding a zone makes its worst grade right and leaves that of every other (R72). -/
theorem State.reencode_worstAt {s : State} {y z : Fin 32} (h : z ≠ y → s.WorstAt z) : (s.reencode y).WorstAt z := by
  by_cases e : z = y
  · subst e
    have encoded : ((s.reencode z).zone z).worst = s.worstOf z := by simp [State.reencode, State.updZone]
    exact ⟨encoded ▸ (s.worstIs_worstOf z).congr (fun _ => Iff.rfl) fun _ _ => rfl⟩
  · refine State.WorstAt.of_sameGrades (s := s) (.of_eq rfl) ?_ (h e)
    rw [State.reencode, State.updZone, State.setZone_zone_ne _ _ e]

theorem State.reencodeOf_worstAt {s : State} {c : Option SurfaceConfig} {z : Fin 32}
    (h : (∀ d, c = some d → z ≠ d.zone) → s.WorstAt z) : (s.reencodeOf c).WorstAt z := by
  cases c with
  | none => exact h (by simp)
  | some d => exact State.reencode_worstAt fun other => h (by rintro _ ⟨⟩; exact other)

theorem State.foldl_reencode_worstAt {z : Fin 32} (l : List (Fin 32)) (s : State) (h : z ∉ l → s.WorstAt z) :
    (l.foldl State.reencode s).WorstAt z := by
  induction l generalizing s with
  | nil => exact h List.not_mem_nil
  | cons y l ih => exact ih _ fun later => State.reencode_worstAt fun other => h (by simp [other, later])

/-- After every zone was encoded each worst grade is right, whatever it was before. -/
theorem State.reencodeAll_worstAt (s : State) (z : Fin 32) : s.reencodeAll.WorstAt z := by
  unfold State.reencodeAll
  exact State.foldl_reencode_worstAt _ s fun out => absurd (List.mem_finRange z) out

/-- A record changed outside a zone, before and after, leaves the zone's worst grade right. -/
theorem State.WorstAt.setSurface {s : State} {z : Fin 32} (h : s.WorstAt z) {i : Fin 64} {r : Surface}
    (before : ∀ c, (s.surface i).config = some c → z ≠ c.zone) (after : ∀ c, r.config = some c → z ≠ c.zone) :
    (s.setSurface i r).WorstAt z := by
  have outBefore : ¬ s.InZone z i := fun ⟨c, hc, e⟩ => before c hc e.symm
  have outAfter : ¬ (s.setSurface i r).InZone z i := fun ⟨c, hc, e⟩ => after c (by simpa using hc) e.symm
  refine ⟨h.stands.congr (fun j => ?_) fun j hj => ?_⟩
  · by_cases e : j = i
    · subst e
      simp only [outBefore, outAfter]
    · simp [State.InZone, State.setSurface_surface_ne s r e]
  · have e : j ≠ i := fun e => outBefore (e ▸ hj)
    rw [State.setSurface_surface_ne s r e]

/-! ### Grade changes -/

section
variable {s : State} {i : Fin 64} {c : SurfaceConfig}

theorem State.gradeChanged_of_none (config : (s.surface i).config = none) (left : Grade) :
    s.gradeChanged i left = s := by
  simp [State.gradeChanged, config]

theorem State.gradeChanged_condenseFollows (config : (s.surface i).config = some c) (left : Grade) :
    (s.gradeChanged i left).CondenseFollows := by
  unfold State.gradeChanged
  split
  · next none => simp [config] at none
  · exact State.evalCondense_condenseFollows _

/-- A grade change encodes its zone and leaves the others (R96). -/
theorem State.gradeChanged_worstAt (config : (s.surface i).config = some c) (left : Grade) {z : Fin 32}
    (h : z ≠ c.zone → s.WorstAt z) : (s.gradeChanged i left).WorstAt z := by
  unfold State.gradeChanged
  split
  · next none => simp [config] at none
  next d found =>
  obtain rfl : c = d := Option.some.inj (config.symm.trans found)
  refine (State.evalCondense_changes _).worstAt (by decide) (by decide) (State.reencode_worstAt fun other => ?_)
  have counted : (s.setSurface i { s.surface i with changes := satInc (s.surface i).changes }).WorstAt z :=
    (h other).of_sameGrades (.setSurface rfl fun _ => rfl) rfl
  split
  · exact (State.raise_changes _ _).worstAt (by decide) (by decide) counted
  · exact counted

end

/-- Regrading a record encodes the zone it names where its grade has changed (R96). -/
theorem State.regrade_worstAt {s : State} {i : Fin 64} {left : Grade} {r : Surface} {z : Fin 32}
    (h : (r.grade ≠ left → ∀ c, r.config = some c → z ≠ c.zone) → (s.setSurface i r).WorstAt z) :
    (s.regrade i left r).WorstAt z := by
  simp only [State.regrade]
  split
  · cases config : r.config with
    | none =>
      rw [State.gradeChanged_of_none (by simpa using config)]
      exact h (by simp [config])
    | some c =>
      refine State.gradeChanged_worstAt (c := c) (by simpa using config) left fun other => h fun _ d hd => ?_
      obtain rfl : c = d := Option.some.inj (config.symm.trans hd)
      exact other
  · next same => exact h fun changed => absurd changed same

/-- A record's new grade reaches its zone and the line, its configuration unchanged (R96). -/
theorem State.Keeps.regrade {s t : State} (h : s.Keeps t) (i : Fin 64) (r : Surface)
    (config : r.config = (t.surface i).config) : s.Keeps (t.regrade i (t.surface i).grade r) := by
  refine h.trans ?_
  have stored : (r.config ≠ none → r.grade = (t.surface i).grade) → t.Keeps (t.setSurface i r) := fun same =>
    State.SameStanding.keeps ⟨.setSurface config same, fun _ => rfl, rfl, rfl, rfl, rfl⟩
  refine ⟨fun follows => ?_, fun z worst => State.regrade_worstAt fun elsewhere => ?_⟩
  · simp only [State.regrade]
    split
    · cases used : r.config with
      | none =>
        rw [State.gradeChanged_of_none (by simpa using used)]
        exact (stored (absurd used)).line follows
      | some c => exact State.gradeChanged_condenseFollows (c := c) (by simpa using used) _
    · next same => exact (stored fun _ => not_not.mp same).line follows
  · by_cases same : r.grade = (t.surface i).grade
    · exact (stored fun _ => same).worst z worst
    · exact worst.setSurface (config ▸ elsewhere same) (elsewhere same)

/-- A stored record reaches the zone it named, the zone it names, and the line (R72, R81, R189). -/
theorem State.Keeps.storeSurface {s t : State} (h : s.Keeps t) (i : Fin 64) (r : Surface) :
    s.Keeps (t.storeSurface i r) := by
  refine h.trans ⟨fun _ => State.evalCondense_condenseFollows _, fun z worst => ?_⟩
  refine (State.evalCondense_changes _).worstAt (by decide) (by decide) ?_
  refine State.reencodeOf_worstAt fun after => State.reencodeOf_worstAt fun before => ?_
  have stored : (t.setSurface i r).WorstAt z := worst.setSurface before after
  split
  · exact State.regrade_worstAt fun _ => stored
  · exact stored

end Sys2Proof.Machine
end

section
/-! PROOFS. What the surface block, the forward modes, the zones, the engine and the descriptor controller keep of the
CONDENSE line and the worst grades (chapters 1, 3, 4, 5 and section 9.6). -/

namespace Sys2Proof.Machine

section
variable {s t : State} (h : s.Keeps t)
include h

/-! ### Surfaces -/

/-- A record stored with its configuration and grade unchanged. -/
theorem State.Keeps.setSurface (i : Fin 64) (r : Surface) (config : r.config = (t.surface i).config)
    (grade : r.grade = (t.surface i).grade) : s.Keeps (t.setSurface i r) :=
  h.trans (State.SameStanding.keeps ⟨.setSurface config fun _ => grade, fun _ => rfl, rfl, rfl, rfl, rfl⟩)

theorem State.Keeps.evaluate (i : Fin 64) (part : Option (Int × Source)) : s.Keeps (t.evaluate i part) := by
  unfold State.evaluate
  dsimp only
  split
  · exact h
  · split
    · exact h.regrade i _ rfl
    · exact h.regrade i _ rfl

theorem State.Keeps.wetted (i : Fin 64) : s.Keeps (t.wetted i) := h.regrade i _ rfl

theorem State.Keeps.unconfirmed (i : Fin 64) : s.Keeps (t.unconfirmed i) := h.setSurface i _ rfl rfl

theorem State.Keeps.probeLost (i : Fin 64) : s.Keeps (t.probeLost i) := h.regrade i _ rfl

theorem State.Keeps.wetnessArrival (sel : Selector) (w : Wet) : s.Keeps (t.wetnessArrival sel w) := by
  cases w with
  | water => exact h.foldl (fun u i => (State.Keeps.refl u).wetted i) _
  | dry => exact h.foldl (fun u i => (State.Keeps.refl u).unconfirmed i) _

theorem State.Keeps.probeNotice (kind : SensorKind) (sel : Selector) : s.Keeps (t.probeNotice kind sel) := by
  cases kind with
  | air => exact h
  | surface => exact h.foldl (fun u i => (State.Keeps.refl u).probeLost i) _
  | wetness => exact h.foldl (fun u i => (State.Keeps.refl u).unconfirmed i) _

/-! ### Forwarding -/

omit h in
theorem Turn.offer_silent (t : Turn) (f : Frame) : (t.offer f).silent = t.silent := by
  unfold Turn.offer
  split <;> rfl

theorem State.Keeps.offerFq (f : Frame) : s.Keeps (t.offerFq f) := h.updTurn _ (Turn.offer_silent _ f)

theorem State.Keeps.offerEnriched (sel : Selector) (payload : List Byte) (v : RefValue) :
    s.Keeps (t.offerEnriched sel payload v) := (h.offerFq _).updDesc _ _

theorem State.Keeps.offerChanged (sel : Selector) (deadband : Nat) (payload : List Byte) (v : RefValue) :
    s.Keeps (t.offerChanged sel deadband payload v) := by
  unfold State.offerChanged
  dsimp only
  split
  · exact h.offerEnriched _ _ _
  · exact h

theorem State.Keeps.forward (sel : Selector) (payload : List Byte) (v : RefValue) :
    s.Keeps (t.forward sel payload v) := by
  unfold State.forward
  split
  · exact h
  · split
    · exact h
    · exact h
    · exact h.offerEnriched _ _ _
    · exact h.offerChanged _ _ _ _

theorem State.Keeps.forwardReject (sel : Selector) (moved : Bool) : s.Keeps (t.forwardReject sel moved) := by
  unfold State.forwardReject
  dsimp only
  split
  · exact h
  · split
    · exact h
    · exact h
    · exact h.offerEnriched _ _ _
    · split
      · exact h.offerEnriched _ _ _
      · exact h

/-! ### Zones -/

omit h in
theorem Zone.accumulate_worst (r : Zone) (w e : Nat) : (r.accumulate w e).worst = r.worst := by
  unfold Zone.accumulate
  split
  · rfl
  · split <;> rfl

theorem State.Keeps.accumulateAir (sel : Selector) (e : Nat) : s.Keeps (t.accumulateAir sel e) := by
  unfold State.accumulateAir
  split
  · exact h
  · exact h.setZone _ _ (Zone.accumulate_worst _ _ _)

theorem State.Keeps.closeZone (z : Fin 32) : s.Keeps (t.closeZone z) := by
  have closed := h.setZone z ((t.zone z).close (t.zoneClose.get z).isSome) rfl
  unfold State.closeZone
  dsimp only
  split
  · exact closed
  · exact closed.changes (State.setZoneClose_changes _ _) (by decide)

theorem State.Keeps.closeZones : s.Keeps t.closeZones := h.foldl (fun u z => (State.Keeps.refl u).closeZone z) _

theorem State.Keeps.zoneDelivered (z : Fin 32) (e : Nat) (td : Int) : s.Keeps (t.zoneDelivered z e td) :=
  (h.setZone z { t.zone z with result := .valid e td } rfl).raiseZone z

/-! ### The engine -/

theorem State.Keeps.discard : s.Keeps t.discard := h.count _

theorem State.Keeps.deliverAir (sel : Selector) (temp : Int) (rh : Nat) (clamped saturated : Bool)
    (gen version : BitVec 8) : s.Keeps (t.deliverAir sel temp rh clamped saturated gen version) := by
  unfold State.deliverAir
  dsimp only
  split
  · exact h.discard
  · exact ((h.updDesc _ _).accumulateAir _ _).forward _ _ _

theorem State.Keeps.deliverSurface (sel : Selector) (temp : Int) (version : BitVec 8) (binding : Option Binding) :
    s.Keeps (t.deliverSurface sel temp version binding) := by
  have delivered : s.Keeps (t.updDesc sel Descriptor.surfaceDelivered) := h.updDesc _ _
  unfold State.deliverSurface
  dsimp only
  split
  · exact h.discard
  · split
    · exact delivered.forward _ _ _
    · split
      · exact delivered.discard.forward _ _ _
      · exact (delivered.evaluate _ _).forward _ _ _

theorem State.Keeps.deliverZone (z : Fin 32) (snap : Snapshot) (gen : BitVec 8) :
    s.Keeps (t.deliverZone z snap gen) := h.zoneDelivered z _ _

theorem State.Keeps.takeJob : s.Keeps t.takeJob := h.changes t.takeJob_changes (by decide)

theorem State.Keeps.epochExpires : s.Keeps t.epochExpires :=
  have closed := (h.setEpochCount 0).closeZones.changes (State.takeIfIdle_changes _) (by decide)
  (closed.foldl (fun u z => (State.Keeps.refl u).raiseZone z) _).changes (State.flushSlots_changes _) (by decide)

theorem State.Keeps.completeAir : s.Keeps t.completeAir := by
  unfold State.completeAir
  split
  · exact (h.deliverAir _ _ _ _ _ _ _).takeJob
  · exact h
  · exact h
  · exact h

theorem State.Keeps.completeSurface : s.Keeps t.completeSurface := by
  unfold State.completeSurface
  split
  · exact (h.deliverSurface _ _ _ _).takeJob
  · exact h
  · exact h
  · exact h

theorem State.Keeps.completeZone : s.Keeps t.completeZone := by
  unfold State.completeZone
  split
  · exact (h.deliverZone _ _ _).takeJob
  · exact h
  · exact h
  · exact h

/-! ### Samples -/

theorem State.Keeps.rejectSample (sel : Selector) (kind : SensorKind) : s.Keeps (t.rejectSample sel kind) := by
  have stored : s.Keeps (t.setDesc sel (t.desc sel).rejected) := h.setDesc _ _
  unfold State.rejectSample
  dsimp only
  split
  · exact ((stored.raiseSensor _ _).probeNotice _ _).forwardReject _ _
  · exact stored.forwardReject _ _

theorem State.Keeps.formatReject (sel : Selector) (kind : SensorKind) : s.Keeps (t.formatReject sel kind) :=
  (h.updDesc _ _).rejectSample sel kind

theorem State.Keeps.plausibilityReject (sel : Selector) (kind : SensorKind) :
    s.Keeps (t.plausibilityReject sel kind) := (h.updDesc _ _).rejectSample sel kind

/-- The descriptor an accepted sample leaves, and the recovery event (R14). -/
theorem State.Keeps.recovered (sel : Selector) (d before : Descriptor) :
    s.Keeps ((t.setDesc sel d).raiseRecovery sel before) := by
  have stored : s.Keeps (t.setDesc sel d) := h.setDesc _ _
  unfold State.raiseRecovery
  split
  · exact stored.raiseSensor _ _
  · exact stored

theorem State.Keeps.acceptAir (sel : Selector) (temp : Int) (rh : Nat) (clamped saturated : Bool) :
    s.Keeps (t.acceptAir sel temp rh clamped saturated) :=
  (h.recovered sel _ _).changes (State.offerJob_changes _ _) (by decide)

theorem State.Keeps.acceptSurface (sel : Selector) (temp : Int) (clamped : Bool) :
    s.Keeps (t.acceptSurface sel temp clamped) :=
  (h.recovered sel _ _).changes (State.offerJob_changes _ _) (by decide)

theorem State.Keeps.acceptWetness (sel : Selector) (w : Wet) : s.Keeps (t.acceptWetness sel w) :=
  ((h.recovered sel _ _).wetnessArrival sel w).forward _ _ _

theorem State.Keeps.readingArrives (sel : Selector) (c : SensorConfig) (r : Raw) :
    s.Keeps (t.readingArrives sel c r) := by
  cases r with
  | air temp rh =>
    simp only [State.readingArrives]
    split
    · exact h.acceptAir _ _ _ _ _
    · exact h.plausibilityReject _ _
  | surface temp =>
    simp only [State.readingArrives]
    split
    · exact h.acceptSurface _ _ _
    · exact h.plausibilityReject _ _
  | wetness w => exact h.acceptWetness sel w

theorem State.Keeps.rawCopy (c : SensorConfig) (f : Frame) : s.Keeps (t.rawCopy c f) := by
  unfold State.rawCopy
  split
  · exact h.offerFq f
  · exact h

theorem State.Keeps.sampleArrives (sel : Selector) (f : Frame) : s.Keeps (t.sampleArrives sel f) := by
  unfold State.sampleArrives
  split
  · exact h.count _
  · dsimp only
    split
    · exact (h.rawCopy _ f).formatReject _ _
    · exact (h.rawCopy _ f).plausibilityReject _ _
    · exact (h.rawCopy _ f).readingArrives _ _ _

theorem State.Keeps.goStale (sel : Selector) : s.Keeps (t.goStale sel) := by
  unfold State.goStale
  dsimp only
  split
  · exact h
  · exact ((h.setDesc _ _).raiseSensor _ _).probeNotice _ _

theorem State.Keeps.storeDesc (sel : Selector) (c : Option SensorConfig) : s.Keeps (t.storeDesc sel c) := by
  have stored := (h.setDesc sel ((t.desc sel).written c)).setEvalQueue
    (t.evalQueue.filter fun q => decide (q.sel ≠ sel))
  unfold State.storeDesc
  dsimp only
  split
  · exact stored
  · exact stored.probeNotice _ _

end

end Sys2Proof.Machine
end

section
/-! PROOFS. What the uplink turn controller keeps of the CONDENSE line and the worst grades: SILENT ends or begins with
an evaluation of the line, everything else leaves it (chapter 9, R115). -/

namespace Sys2Proof.Machine

section
variable {s t : State} (h : s.Keeps t)
include h

/-! ### Commits -/

theorem State.Keeps.commitReply : s.Keeps t.commitReply := by
  refine h.updTurn _ ?_
  split <;> rfl

theorem State.Keeps.slotTaken (i : Fin 16) : s.Keeps (t.slotTaken i) := h.setSlot _ _

theorem State.Keeps.commitRelease : s.Keeps t.commitRelease := h.updTurn _ rfl

theorem State.Keeps.commitSlot (i : Fin 16) : s.Keeps (t.commitSlot i) := (h.slotTaken i).updTurn _ rfl

theorem State.Keeps.commitForward (f : Frame) (rest : List Frame) : s.Keeps (t.commitForward f rest) := h.updTurn _ rfl

theorem State.Keeps.commitQueued : s.Keeps t.commitQueued := by
  unfold State.commitQueued
  split
  · split
    · exact h.commitForward _ _
    · exact h.commitSlot _
  · exact h.commitForward _ _
  · exact h.commitSlot _
  · exact h.commitRelease

theorem State.Keeps.frameOpportunity : s.Keeps t.frameOpportunity := by
  unfold State.frameOpportunity
  split
  · exact h.commitRelease
  · split
    · exact h.updTurn _ rfl
    · exact h.commitQueued

/-! ### GRANT -/

theorem State.Keeps.slotRetry (i : Fin 16) : s.Keeps (t.slotRetry i) := h.setSlot _ _

omit h in
theorem Turn.takeBack_silent (t : Turn) (f : Frame) : (t.takeBack f).silent = t.silent := by
  unfold Turn.takeBack
  split <;> rfl

theorem State.Keeps.withdraw (c : Committed) : s.Keeps (t.withdraw c) := by
  have freed : s.Keeps (t.updTurn fun t => { t with withU := none }) := h.updTurn _ rfl
  unfold State.withdraw
  dsimp only
  split
  · exact freed.updTurn _ rfl
  · exact freed.slotRetry _
  · exact freed.updTurn _ (Turn.takeBack_silent _ _)
  · exact freed

theorem State.Keeps.beginTurn (budget : Nat) (tag : Byte) : s.Keeps (t.beginTurn budget tag) := by
  have begun : s.Keeps (t.updTurn fun t =>
    { t with state := .turn, budget := budget, sent := 0, run := 0, tag := tag }) := h.updTurn _ rfl
  unfold State.beginTurn
  dsimp only
  split
  · exact begun.frameOpportunity
  · split
    · exact begun.updTurn _ rfl
    · exact (begun.withdraw _).frameOpportunity

theorem State.Keeps.takeGrant (f : Frame) : s.Keeps (t.takeGrant f) :=
  have counted : s.Keeps (t.updTurn fun t => { t with silence := 0 }) := h.updTurn _ rfl
  counted.endSilence.beginTurn _ _

/-! ### Replies -/

theorem State.Keeps.joinReplies (f : Frame) (src : ReplySource) : s.Keeps (t.joinReplies f src) :=
  have joined : s.Keeps (t.updTurn fun t => { t with replies := t.replies ++ [{ frame := f, source := src }] }) :=
    h.updTurn _ rfl
  joined.commitReply

theorem State.Keeps.handReply (p : Port) (f : Frame) (src : ReplySource) : s.Keeps (t.handReply p f src) := by
  cases p with
  | floor q => exact h.updPort (.floor q) fun r => r.handReply f
  | u => exact h.joinReplies f src

theorem State.Keeps.pollStatus (f : Frame) (st : Status) : s.Keeps (t.pollStatus f st) := h.joinReplies _ _

theorem State.Keeps.pollSlot (f : Frame) (i : Fin 16) : s.Keeps (t.pollSlot f i) := by
  have answered : s.Keeps (if (t.slot i).binding.inhibit then t.pollStatus f .deferred
      else (t.slotTaken i).joinReplies (t.reportFrame i f.env.tag) (.pollReport i)) := by
    split
    · exact h.pollStatus f _
    · exact (h.slotTaken i).joinReplies _ _
  unfold State.pollSlot
  split
  · exact answered
  · exact answered
  · exact h.pollStatus f _
  · exact h.pollStatus f _
  · exact h.pollStatus f _

theorem State.Keeps.takePoll (f : Frame) : s.Keeps (t.takePoll f) := by
  unfold State.takePoll
  split
  · exact h.pollStatus f _
  · split
    · exact h.pollSlot f _
    · exact h.pollStatus f _

/-! ### Outcomes on U -/

theorem State.Keeps.uStarts : s.Keeps t.uStarts := by
  unfold State.uStarts
  dsimp only
  split
  · exact h
  · split
    · exact h.changes (State.setPort_changes _ _ _) (by decide)
    · exact h

theorem State.Keeps.replyEnds (src : ReplySource) : s.Keeps (t.replyEnds src) :=
  h.changes (t.replyEnds_changes src) (by decide)

theorem State.Keeps.afterSent : s.Keeps t.afterSent := by
  have listening : s.Keeps (t.updTurn fun t => { t with state := .listen }) := h.updTurn _ rfl
  unfold State.afterSent
  split
  · exact h
  · split
    · exact h.frameOpportunity
    · exact listening.commitReply
    · exact listening.commitReply

theorem State.Keeps.slotSent (i : Fin 16) : s.Keeps (t.slotSent i) := h.setSlot _ _

theorem State.Keeps.settleSent (src : TxSource) : s.Keeps (t.settleSent src) := by
  unfold State.settleSent
  split
  · exact (h.slotSent _).afterSent
  · exact (h.replyEnds _).afterSent
  · exact (h.slotSent _).afterSent
  · exact h.afterSent
  · next seen =>
    have released : s.Keeps (t.updTurn fun t =>
      { t with state := .listen, silenceSeen := t.silenceSeen && !seen }) := h.updTurn _ rfl
    exact released.commitReply

theorem State.Keeps.uSent : s.Keeps t.uSent := by
  unfold State.uSent
  split
  · exact ((h.updPort _ _).updTurn _ rfl).settleSent _
  · exact h

theorem State.Keeps.slotCollision (i : Fin 16) : s.Keeps (t.slotCollision i) := by
  unfold State.slotCollision
  split
  · exact h.setSlot _ _
  · exact h.slotRetry i

theorem State.Keeps.settleCollision (src : TxSource) : s.Keeps (t.settleCollision src) := by
  unfold State.settleCollision
  split
  · exact h.slotCollision _
  · exact h.replyEnds _
  · exact h.slotCollision _
  · exact h.updTurn _ rfl
  · exact h

theorem State.Keeps.uCollides : s.Keeps t.uCollides := by
  unfold State.uCollides
  split
  · exact h
  · next c _ =>
    have settled := ((h.updPort .u PortRec.uReleased).updTurn (fun t =>
      { t with withU := none, state := .listen, collisions := satInc t.collisions }) rfl).settleCollision c.source
    dsimp only
    split
    · exact settled
    · exact settled.commitReply

end

end Sys2Proof.Machine
end

section
/-! PROOFS. What the management engine keeps of the CONDENSE line and the worst grades: a stored surface record and a
CLEAR of the latch re-evaluate them, no other request touches what they rest on (chapter 10). -/

namespace Sys2Proof.Machine

/-- Serving an answer keeps what the answered change kept. -/
theorem State.Keeps.serve {s t : State} {r : State × Answer} (h : s.Keeps r.1) (q : Request) :
    s.Keeps (t.serve q r) := h.setMgmt _

section
variable {s t : State} (h : s.Keeps t)
include h

/-! ### WRITE and EXCHANGE -/

section
variable {u : State} {data : List Byte}

theorem State.Keeps.writeDesc {sel : Selector} (ok : t.writeDesc sel data = .ok u) : s.Keeps u := by
  unfold State.writeDesc at ok
  split at ok
  · cases ok
  · obtain rfl := Except.ok.inj ok
    exact h.storeDesc _ _

theorem State.Keeps.writeSurface {i : Fin 64} (ok : t.writeSurface i data = .ok u) : s.Keeps u := by
  unfold State.writeSurface at ok
  split at ok
  · cases ok
  · obtain rfl := Except.ok.inj ok
    exact h.storeSurface _ _

theorem State.Keeps.exchangeSurface {i : Fin 64} (ok : t.exchangeSurface i data = .ok u) : s.Keeps u := by
  unfold State.exchangeSurface at ok
  split at ok
  · cases ok
  · obtain rfl := Except.ok.inj ok
    exact h.storeSurface _ _

theorem State.Keeps.writeThrSet {i : Fin 8} (ok : t.writeThrSet i data = .ok u) : s.Keeps u := by
  unfold State.writeThrSet at ok
  split at ok
  · cases ok
  · obtain rfl := Except.ok.inj ok
    exact h.setThr _

theorem State.Keeps.writeZoneConfig {z : Fin 32} (ok : t.writeZoneConfig z data = .ok u) : s.Keeps u := by
  unfold State.writeZoneConfig at ok
  split at ok
  · cases ok
  · obtain rfl := Except.ok.inj ok
    exact h.setZone _ _ rfl

theorem State.Keeps.writeSlotBinding {i : Fin 16} (ok : t.writeSlotBinding i data = .ok u) : s.Keeps u := by
  unfold State.writeSlotBinding at ok
  split at ok
  · split at ok
    · cases ok
    · obtain rfl := Except.ok.inj ok
      exact h.setSlot _ _
  · cases ok

theorem State.Keeps.writeEpoch (ok : t.writeEpoch data = .ok u) : s.Keeps u := by
  unfold State.writeEpoch at ok
  split at ok
  · split at ok
    · obtain rfl := Except.ok.inj ok
      exact (h.setConfig _).setEpochCount _
    · cases ok
  · cases ok

theorem State.Keeps.writeSilence (ok : t.writeSilence data = .ok u) : s.Keeps u := by
  unfold State.writeSilence at ok
  split at ok
  · split at ok
    · obtain rfl := Except.ok.inj ok
      exact h.setConfig _
    · cases ok
  · cases ok

theorem State.Keeps.writeLines {arrival : Port} (ok : t.writeLines arrival data = .ok u) : s.Keeps u := by
  unfold State.writeLines at ok
  split at ok
  · cases ok
  · obtain rfl := Except.ok.inj ok
    exact (h.setConfig _).foldl
      (fun v i => (State.setPorts_changes v _).keeps (by decide)) _

theorem State.Keeps.writeEntry {table : Table} {arrival : Port} {i : Byte}
    (ok : t.writeEntry table arrival i data = .ok u) : s.Keeps u := by
  cases table with
  | sdt => exact h.writeDesc ok
  | svtActive => cases ok
  | svtShadow => cases ok
  | sft =>
    simp only [State.writeEntry] at ok
    split at ok
    · exact h.writeSurface ok
    · cases ok
  | thr =>
    simp only [State.writeEntry] at ok
    split at ok
    · exact h.writeThrSet ok
    · cases ok
  | zone =>
    simp only [State.writeEntry] at ok
    split at ok
    · exact h.writeZoneConfig ok
    · cases ok
  | slot =>
    simp only [State.writeEntry] at ok
    split at ok
    · exact h.writeSlotBinding ok
    · cases ok
  | config =>
    simp only [State.writeEntry] at ok
    split at ok
    · exact h.writeEpoch ok
    · exact h.writeSilence ok
    · exact h.writeLines ok
    · cases ok

omit h in
/-- A state paired with reply data is the one the operation stored. -/
theorem Except.of_map_ok {o : Except Status State} {f : State → List Byte} {v : State × List Byte}
    (ok : (o.map fun x => (x, f x)) = .ok v) : o = .ok v.1 := by
  cases o with
  | error => cases ok
  | ok x =>
    obtain rfl := Except.ok.inj ok
    rfl

theorem State.Keeps.exchangeEntry {table : Table} {i : Byte} {v : State × List Byte}
    (ok : t.exchangeEntry table i data = .ok v) : s.Keeps v.1 := by
  unfold State.exchangeEntry at ok
  split at ok
  · split at ok
    · exact h.exchangeSurface (Except.of_map_ok ok)
    · cases ok
  · split at ok
    · exact h.writeThrSet (Except.of_map_ok ok)
    · cases ok
  · cases ok

end

theorem State.Keeps.writeAnswer (p : Port) (level : Nat) (a : Args) : s.Keeps (t.writeAnswer p level a).1 := by
  unfold State.writeAnswer
  split
  · exact h
  · split
    · exact h
    · split
      · exact h
      · split
        · exact h
        · split
          · exact h
          · next ok => exact h.writeEntry ok

theorem State.Keeps.exchangeAnswer (level : Nat) (a : Args) : s.Keeps (t.exchangeAnswer level a).1 := by
  unfold State.exchangeAnswer
  split
  · exact h
  · split
    · exact h
    · split
      · exact h
      · split
        · exact h
        · split
          · exact h
          · next ok => exact h.exchangeEntry ok

/-! ### The saturation table and CLEAR -/

theorem State.Keeps.loadAnswer (level : Nat) (a : Args) : s.Keeps (t.loadAnswer level a).1 := by
  unfold State.loadAnswer
  split
  · exact h
  · split
    · exact h
    · split
      · exact h
      · split
        · exact h
        · exact h.setSvt _

theorem State.Keeps.zeroCounters : s.Keeps t.zeroCounters :=
  ((((h.setSdt _).setCounters _).setPorts _).setSlots _).updTurn
    (fun _ => { t.turn with collisions := 0, requestOverrun := 0, forwardDrop := 0 }) rfl

theorem State.Keeps.clearSurfaceCounts : s.Keeps t.clearSurfaceCounts := by
  refine h.trans (State.SameStanding.keeps ⟨fun i => ?_, fun _ => rfl, rfl, rfl, rfl, rfl⟩)
  simp [State.clearSurfaceCounts, State.surface]

theorem State.Keeps.clearZoneFlags : s.Keeps t.clearZoneFlags := by
  refine h.trans (State.SameStanding.keeps ⟨.of_eq rfl, fun z => ?_, rfl, rfl, rfl, rfl⟩)
  simp [State.clearZoneFlags, State.zone]

theorem State.Keeps.clear (target : Target) : s.Keeps (t.clear target) := by
  cases target with
  | counters => exact h.zeroCounters
  | accessed => exact h.setSdt _
  | slotFlags => exact h.setSlots _
  | surfaceCounts => exact h.clearSurfaceCounts
  | zoneFlags => exact h.clearZoneFlags
  | alarm => exact h.clearAlarm

theorem State.Keeps.clearAnswer (level : Nat) (a : Args) : s.Keeps (t.clearAnswer level a).1 := by
  unfold State.clearAnswer
  split
  · exact h
  · split
    · exact h
    · split
      · exact h
      · exact h.clear _

/-! ### The take and the completions -/

theorem State.Keeps.beginCommit (q : Request) (a : Args) : s.Keeps (t.beginCommit q a) := by
  unfold State.beginCommit
  split
  · exact State.Keeps.serve h q
  · exact h.setMgmt _

theorem State.Keeps.beginRestart (q : Request) (a : Args) : s.Keeps (t.beginRestart q a) := by
  unfold State.beginRestart
  split
  · exact State.Keeps.serve h q
  · exact (h.setMgmt _).handReply _ _ _

theorem State.Keeps.take (q : Request) : s.Keeps (t.take q) := by
  unfold State.take
  split
  · exact State.Keeps.serve h q
  · split
    · exact State.Keeps.serve h q
    · exact State.Keeps.serve h q
    · exact State.Keeps.serve (h.writeAnswer _ _ _) q
    · exact State.Keeps.serve (h.exchangeAnswer _ _) q
    · exact State.Keeps.serve (h.loadAnswer _ _) q
    · exact h.beginCommit q _
    · exact State.Keeps.serve h q
    · exact State.Keeps.serve (h.clearAnswer _ _) q
    · exact h.beginRestart q _

theorem State.Keeps.request (p : Port) (f : Frame) : s.Keeps (t.request p f) := by
  unfold State.request
  split
  · exact h.take _
  · exact h.handReply _ _ _

theorem State.Keeps.serviceEnds : s.Keeps t.serviceEnds := by
  unfold State.serviceEnds
  split
  · exact (h.setMgmt _).handReply _ _ _
  · exact h

theorem State.Keeps.commitEnds : s.Keeps t.commitEnds := by
  unfold State.commitEnds
  split
  · split
    · exact ((h.setSvt _).setMgmt _).handReply _ _ _
    · exact (h.setMgmt _).handReply _ _ _
  · exact h

end

end Sys2Proof.Machine
end

section
/-! PROOFS. Every step keeps the CONDENSE line and the worst grades: the router, what is due, reset and RESTART, and the
commands (chapters 8 and 11, R71, R189). -/

namespace Sys2Proof.Machine

section
variable {s t : State} (h : s.Keeps t)
include h

/-! ### The router -/

theorem State.Keeps.countRouter (p : Port) (f : RouterCounters → RouterCounters) : s.Keeps (t.countRouter p f) :=
  h.changes (State.countRouter_changes _ _ _) (by decide)

theorem State.Keeps.routeSample (p : FloorPort) (f : Frame) : s.Keeps (t.routeSample p f) := by
  unfold State.routeSample
  split
  · exact h.countRouter _ _
  · exact h.sampleArrives _ _

theorem State.Keeps.routeNodeStatus (p : FloorPort) (f : Frame) : s.Keeps (t.routeNodeStatus p f) := by
  unfold State.routeNodeStatus
  split
  · exact h.countRouter _ _
  · split
    · exact h.offerFq f
    · exact h.count _

theorem State.Keeps.routeRequest (p : Port) (f : Frame) : s.Keeps (t.routeRequest p f) := by
  unfold State.routeRequest
  split
  · split
    · exact h.countRouter _ _
    · exact h.updTurn _ rfl
  · exact (h.updPort _ _).request p f

theorem State.Keeps.routeNodeCmd (f : Frame) : s.Keeps (t.routeNodeCmd f) :=
  h.foldl (fun u p => (State.Keeps.refl u).updPort (.floor p) fun r => r.joinDownward f) _

theorem State.Keeps.routeFloor (p : FloorPort) (f : Frame) : s.Keeps (t.routeFloor p f) := by
  unfold State.routeFloor
  dsimp only
  split
  · exact h.routeSample p _
  · exact h.routeNodeStatus p _
  · exact h.routeRequest _ _
  · exact h.countRouter _ _
  · exact h.countRouter _ _
  · exact h
  · exact h
  · exact h
  · exact h

theorem State.Keeps.routeSupervisor (f : Frame) : s.Keeps (t.routeSupervisor f) := by
  unfold State.routeSupervisor
  split
  · exact h
  · exact h.takeGrant f
  · exact h.takePoll f
  · exact h.routeNodeCmd f
  · exact h.routeRequest _ _
  · exact h.countRouter _ _
  · exact h.countRouter _ _
  · exact h
  · exact h

theorem State.Keeps.routeFrame (p : Port) (f : Frame) : s.Keeps (t.routeFrame p f) := by
  cases p with
  | floor q => exact h.routeFloor q f
  | u => exact h.routeSupervisor f

end

/-! ### Reset, the supply and RESTART -/

/-- With no record in use and no worst grade encoded, the worst grades are right (R75, R99). -/
theorem State.powerOnValues_worstAt (pins : Pins) (unitNo : BitVec 4) (pending : List Instr) (z : Fin 32) :
    (State.powerOnValues pins unitNo pending).WorstAt z := by
  have worst : ((State.powerOnValues pins unitNo pending).zone z).worst = none := by
    simp [State.powerOnValues, State.zone, Zone.powerOn]
  have unused : ∀ i, ((State.powerOnValues pins unitNo pending).surface i).config = none := fun i => by
    simp [State.powerOnValues, State.surface, Surface.powerOn]
  exact ⟨worst ▸ fun i inZone => inZone.inUse (unused i)⟩

/-- Where the worst grades are right, an evaluation of the line makes both right, whatever was before. -/
theorem State.keeps_evalCondense_of_worstAt (s : State) {t : State} (worst : ∀ z, t.WorstAt z) :
    s.Keeps t.evalCondense where
  line _ := t.evalCondense_condenseFollows
  worst z _ := t.evalCondense_changes.worstAt (by decide) (by decide) (worst z)

theorem State.powerUp_keeps (s : State) (straps : BitVec 3) : s.Keeps (s.powerUp straps) :=
  ((s.keeps_evalCondense_of_worstAt (State.powerOnValues_worstAt _ _ _)).raiseStart false).raiseDark

/-- RESET leaves surfaces and zones, and the part does not run in it (R191). -/
theorem State.enterReset_keeps (s : State) : s.Keeps s.enterReset := by
  have stopped : s.enterReset.power ≠ .running := by
    simp only [State.enterReset]
    split <;> simp
  exact ⟨fun _ => State.condenseFollows_of_stopped stopped,
    fun z => State.WorstAt.of_sameGrades (s := s) (.of_eq rfl) rfl⟩

theorem State.loseSupply_keeps (s : State) : s.Keeps s.loseSupply := by
  have lost : s.loseSupply = (State.powerOnValues s.pins s.unitNo s.pending).setPower .unpowered := rfl
  rw [lost]
  exact ⟨fun _ => State.condenseFollows_of_stopped (by simp), fun z _ =>
    (State.setPower_changes _ _).worstAt (by decide) (by decide) (State.powerOnValues_worstAt _ _ _ z)⟩

/-- A RESTART encodes every zone and evaluates the line again (R72, R185). -/
theorem State.restartEffect_keeps (s : State) : s.Keeps s.restartEffect :=
  ((s.keeps_evalCondense_of_worstAt (State.reencodeAll_worstAt _)).raiseStart true).raiseDark

section
variable {s t : State} (h : s.Keeps t)
include h

/-! ### What is due -/

theorem State.Keeps.takeSettings (p : Port) : s.Keeps (t.takeSettings p) := h.updPort p _

theorem State.Keeps.settingsAll : s.Keeps t.settingsAll :=
  h.foldl (fun u p => (State.Keeps.refl u).takeSettings p) allPorts

theorem State.Keeps.routeBuffered (p : Port) : s.Keeps (t.routeBuffered p) := by
  unfold State.routeBuffered
  split
  · exact h
  · exact (h.updPort _ _).routeFrame p _

theorem State.Keeps.routeAll : s.Keeps t.routeAll :=
  h.foldl (fun u p => (State.Keeps.refl u).routeBuffered p) allPorts

theorem State.Keeps.restartIfDue : s.Keeps t.restartIfDue := by
  unfold State.restartIfDue
  split
  · exact h.trans t.restartEffect_keeps
  · exact h

theorem State.Keeps.staleAll : s.Keeps t.staleAll := h.foldl (fun u sel => (State.Keeps.refl u).goStale sel) _

theorem State.Keeps.epochIfDue : s.Keeps t.epochIfDue := by
  unfold State.epochIfDue
  split
  · exact h.epochExpires
  · exact h

theorem State.Keeps.silenceIfDue : s.Keeps t.silenceIfDue := by
  unfold State.silenceIfDue
  split
  · exact h.enterSilent
  · exact h

theorem State.Keeps.settle : s.Keeps t.settle :=
  h.settingsAll.routeAll.restartIfDue.staleAll.epochIfDue.silenceIfDue.settingsAll

omit h in
theorem Turn.ticked_silent (t : Turn) : t.ticked.silent = t.silent := by
  unfold Turn.ticked
  split <;> rfl

theorem State.Keeps.tick : s.Keeps t.tick :=
  have counted := (h.setSdt (t.sdt.map Descriptor.ticked)).setEpochCount (t.epochCount + 1)
  (counted.updTurn _ (Turn.ticked_silent _)).setDue _

/-! ### The lines -/

theorem State.Keeps.receiveChar (p : Port) (l : LineChar) (ended : Bool) : s.Keeps (t.receiveChar p l ended) := by
  unfold State.receiveChar
  split
  · exact h.updPort _ _
  · exact h

theorem State.Keeps.signalLost (p : FloorPort) : s.Keeps (t.signalLost p) := by
  unfold State.signalLost
  split
  · exact (h.updPort _ _).raise _
  · exact h

theorem State.Keeps.signalBack (p : FloorPort) : s.Keeps (t.signalBack p) := by
  unfold State.signalBack
  split
  · exact h
  · exact (h.updPort _ _).raise _

end

/-! ### The shapes of a command -/

section
variable {s t : State}

theorem State.actOn_keeps {pin f : State → State} (pins : ∀ u : State, u.Keeps (pin u))
    (acts : ∀ u : State, u.Keeps (f u)) (h : s.actOn pin f = .next t) : s.Keeps t := by
  obtain rfl := Host.Outcome.next.inj h
  split
  · exact ((State.Keeps.refl s).settle.trans (pins _)).trans (acts _)
  · exact pins s

theorem State.act_keeps {f : State → State} (acts : ∀ u : State, u.Keeps (f u)) (h : s.act f = .next t) : s.Keeps t :=
  State.actOn_keeps .refl acts h

theorem State.actDue_keeps {due : Bool} {f : State → State} (acts : s.Keeps (f s)) (h : s.actDue due f = .next t) :
    s.Keeps t := by
  obtain rfl := Host.Outcome.next.inj h
  split
  · exact acts
  · exact .refl s

theorem State.setCommission_keeps (level : Bool) (s : State) : s.Keeps (s.setCommission level) :=
  (s.setPins_changes _).keeps (by decide)

theorem State.setLos_keeps (p : FloorPort) (level : Bool) (s : State) : s.Keeps (s.setLos p level) :=
  (s.setPins_changes _).keeps (by decide)

theorem State.actFrameAt_keeps {pin : State → State} (pins : ∀ u : State, u.Keeps (pin u)) {p : Port} {f : Frame}
    {row : FrameRow} (h : s.actFrameAt pin p f row = .next t) : s.Keeps t := by
  unfold State.actFrameAt at h
  refine State.actOn_keeps pins (fun u => ?_) h
  split
  · exact (State.Keeps.refl u).routeFrame p f
  · exact .refl u

theorem State.actFrame_keeps {p : Port} {f : Frame} {row : FrameRow} (h : s.actFrame p f row = .next t) : s.Keeps t :=
  State.actFrameAt_keeps .refl h

theorem State.actRequest_keeps {p : Port} {row : RequestRow} {cmd table index : Byte} {r : MgmtOperand}
    (h : s.actRequest p row cmd table index r = .next t) : s.Keeps t :=
  State.actFrameAt_keeps (State.setCommission_keeps _) h

/-! ### The commands -/

theorem exec_keeps (c : Instr) (h : exec c s = .next t) : s.Keeps t := by
  cases c with
  | resetAsserted =>
    obtain rfl := Host.Outcome.next.inj h
    exact s.enterReset_keeps
  | powerOn straps =>
    obtain rfl := Host.Outcome.next.inj h
    exact s.powerUp_keeps straps
  | supplyRemoved =>
    obtain rfl := Host.Outcome.next.inj h
    exact s.loseSupply_keeps
  | secondsTick => exact State.act_keeps (fun u => (State.Keeps.refl u).tick) h
  | stalenessExpiry sel =>
    rw [exec_stalenessExpiry] at h
    exact State.actDue_keeps ((State.Keeps.refl s).goStale sel) h
  | epochExpiry => exact State.actDue_keeps (State.Keeps.refl s).epochExpires h
  | silenceEntry => exact State.actDue_keeps (State.Keeps.refl s).enterSilent h
  | restartTakesEffect => exact State.actDue_keeps s.restartEffect_keeps h
  | settingsTakeEffect p =>
    rw [exec_settingsTakeEffect] at h
    exact State.actDue_keeps ((State.Keeps.refl s).takeSettings p) h
  | losAsserted p =>
    exact State.actOn_keeps (State.setLos_keeps p true) (fun u => (State.Keeps.refl u).signalLost p) h
  | losReleased p =>
    exact State.actOn_keeps (State.setLos_keeps p false) (fun u => (State.Keeps.refl u).signalBack p) h
  | characterReceived p l ended commission =>
    exact State.actOn_keeps (State.setCommission_keeps commission)
      (fun u => (State.Keeps.refl u).receiveChar p l ended) h
  | gapTimeout p => exact State.act_keeps (fun u => (State.Keeps.refl u).updPort p _) h
  | breakRecognised x => exact State.act_keeps (fun u => (State.Keeps.refl u).updPort _ fun r => r.breakSeen x) h
  | breakEnd x => exact State.act_keeps (fun u => (State.Keeps.refl u).updPort _ fun r => r.pulseEnds x) h
  | floorFrameSent p => exact State.act_keeps (fun u => (State.Keeps.refl u).updPort (.floor p) _) h
  | uTransmitStart => exact State.act_keeps (fun u => (State.Keeps.refl u).uStarts) h
  | uFrameSent => exact State.act_keeps (fun u => (State.Keeps.refl u).uSent) h
  | collision pos back =>
    rw [exec_collision] at h
    refine State.act_keeps (fun u => ?_) h
    split
    · exact (State.Keeps.refl u).uCollides
    · exact .refl u
  | airJobCompletion => exact State.act_keeps (fun u => (State.Keeps.refl u).completeAir) h
  | surfaceJobCompletion => exact State.act_keeps (fun u => (State.Keeps.refl u).completeSurface) h
  | zoneJobCompletion => exact State.act_keeps (fun u => (State.Keeps.refl u).completeZone) h
  | commitCheckCompletion => exact State.act_keeps (fun u => (State.Keeps.refl u).commitEnds) h
  | serviceCompletion => exact State.act_keeps (fun u => (State.Keeps.refl u).serviceEnds) h
  | foreignFrameIgnored | sample | nodeStatus | nodeCmd | misdirectedFrame | unknownKindFrame | grant | poll =>
    exact State.actFrame_keeps h
  | malformedRequest p e commission payload => exact State.actFrameAt_keeps (State.setCommission_keeps commission) h
  | read | writeSdt | writeSft | exchangeSft | writeThr | exchangeThr | writeZone | writeSlot | writeEpochLength
  | writeSilenceLimit | writeLineSettings | svtLoad | svtCommit | querySensor | querySurface | queryZone | querySlot
  | queryPort | queryUnit | clearCounters | clearAccessed | clearSlotFlags | clearSurfaceCounts | clearZoneFlags
  | clearAlarm | restart =>
    exact State.actRequest_keeps h

/-- Every step keeps both: on an empty queue the part idles, and taking a command off the queue touches neither. -/
theorem step_keeps (h : step s = .next t) : s.Keeps t := by
  unfold step at h
  split at h
  · obtain rfl := Host.Outcome.next.inj h
    exact .refl s
  · next c rest _ =>
    have taken : s.Keeps (s.setPending rest) :=
      State.SameStanding.keeps ⟨.of_eq rfl, fun _ => rfl, rfl, rfl, rfl, rfl⟩
    exact taken.trans (exec_keeps c h)

end

/-- Settles O57 by one walk over the step: each operation leaves what R71 and R189 rest on, or ends with the zones it
touched encoded and the line evaluated again. -/
theorem stepsKeepCondenseAndWorstGrades : Obligations.StepsKeepCondenseAndWorstGrades := by
  unfold Obligations.StepsKeepCondenseAndWorstGrades
  refine ⟨fun s t follows stepped => (step_keeps stepped).line follows, fun s t encoded stepped => ?_⟩
  rw [State.worstEncoded_iff] at encoded ⊢
  exact fun z => (step_keeps stepped).worst z (encoded z)

end Sys2Proof.Machine
end

section
/-! PROOFS. Grades from margins: the order of the grades, the thresholds, and what an evaluation does to a grade
(R83 to R88). -/

namespace Sys2Proof.Machine

/-! ### The order of the grades -/

/-- The place of a grade in the order CLEAR, WATCH, ALERT, WET, counted from 1, with BLIND at 0 (R83). -/
def Grade.place : Grade → Nat
  | .blind => 0 | .clear => 1 | .watch => 2 | .alert => 3 | .wet => 4

/-- One grade is worse than another where the other is not BLIND and stands before it. -/
theorem Grade.worse_iff (a b : Grade) : a.worse b = true ↔ b ≠ .blind ∧ b.place < a.place := by
  cases a <;> cases b <;> simp [Grade.worse, Grade.rank, Grade.place]

theorem Grade.place_le_wet (g : Grade) : g.place ≤ Grade.wet.place := by cases g <;> decide

/-! ### The thresholds -/

theorem gradeAt_place (t : ThrSet) (h m : Int) :
    (gradeAt t h m).place =
      if t.watch + h ≤ m then 1 else if t.alert + h ≤ m then 2 else if t.wet + h ≤ m then 3 else 4 := by
  unfold gradeAt
  split_ifs <;> rfl

/-- A margin calls for no better grade under thresholds raised further (R84). -/
theorem gradeAt_place_mono (t : ThrSet) {h k : Int} (m : Int) (raised : h ≤ k) :
    (gradeAt t h m).place ≤ (gradeAt t k m).place := by
  simp only [gradeAt_place]
  split_ifs <;> omega

/-- The candidate is never better than the raw grade, whose thresholds are not raised (R84). -/
theorem rawGrade_place_le (t : ThrSet) (m : Int) : (rawGrade t m).place ≤ (candidateGrade t m).place :=
  gradeAt_place_mono t m (Int.natCast_nonneg t.hyst)

/-- Every grade a margin calls for is one of the four with a place. -/
theorem gradeAt_ne_blind (t : ThrSet) (h m : Int) : gradeAt t h m ≠ .blind := by
  unfold gradeAt
  split_ifs <;> decide

/-- An ordered set stays ordered when its thresholds are raised, and within its range raised (R79, R84). -/
theorem ThrSet.Ordered.raised {t : ThrSet} (h : t.Ordered) :
    t.alert + t.hyst < t.watch + t.hyst ∧ t.wet + t.hyst < t.alert + t.hyst ∧
      -1000 ≤ t.wet + t.hyst ∧ t.watch + t.hyst ≤ 2200 := by
  obtain ⟨watch, alert, low, high, hyst, -, -⟩ := h
  omega

/-! ### An evaluation -/

section
variable {t : ThrSet} {r : Surface} {m : Int}

/-- The first grade out of BLIND is the raw grade (R86). -/
theorem gradeStep_of_blind (blind : r.grade = .blind) : gradeStep t r m = (rawGrade t m, 0) := by
  simp [gradeStep, blind]

/-- A worse raw grade is taken at once (R86). -/
theorem gradeStep_of_rise (seen : r.grade ≠ .blind) (rise : r.grade.place < (rawGrade t m).place) :
    gradeStep t r m = (rawGrade t m, 0) := by
  have worse : (rawGrade t m).worse r.grade = true := (Grade.worse_iff _ _).mpr ⟨seen, rise⟩
  simp [gradeStep, worse]

section
variable (seen : r.grade ≠ .blind) (noRise : (rawGrade t m).place ≤ r.grade.place)
include seen noRise

/-- Without a rise CONFIRMED holds the grade, and otherwise the candidate and the dwell count decide (R87, R88). -/
theorem gradeStep_of_no_rise :
    gradeStep t r m =
      if r.confirmed then (r.grade, 0)
      else if (candidateGrade t m).place < r.grade.place then
        if t.dwell ≤ r.dwell + 1 then (candidateGrade t m, 0) else (r.grade, r.dwell + 1)
      else (r.grade, 0) := by
  have raw : (rawGrade t m).worse r.grade = false := by
    rw [← Bool.not_eq_true, Grade.worse_iff]
    exact fun ⟨_, rise⟩ => Nat.not_lt_of_le noRise rise
  have candidate : r.grade.worse (candidateGrade t m) = true ↔ (candidateGrade t m).place < r.grade.place := by
    rw [Grade.worse_iff]
    exact and_iff_right (gradeAt_ne_blind _ _ _)
  simp [gradeStep, seen, raw, candidate]

/-- Under CONFIRMED no grade falls, and nothing is counted (R87). -/
theorem gradeStep_of_confirmed (confirmed : r.confirmed = true) : gradeStep t r m = (r.grade, 0) := by
  rw [gradeStep_of_no_rise seen noRise, if_pos confirmed]

end

/-- A confirmed WET outlasts every evaluation: nothing is worse, and nothing falls. -/
theorem gradeStep_of_wet (wet : r.grade = .wet) (confirmed : r.confirmed = true) :
    gradeStep t r m = (.wet, 0) := by
  rw [gradeStep_of_confirmed (by simp [wet]) (wet ▸ Grade.place_le_wet _) confirmed, wet]

end

/-- Settles O31: raw grade and candidate are one function of the thresholds, monotone in the raise; the branches of an
evaluation are those of the order of the grades. -/
theorem gradesRiseAtOnceAndFallByDwell : Obligations.GradesRiseAtOnceAndFallByDwell := by
  unfold Obligations.GradesRiseAtOnceAndFallByDwell
  intro t r m grade place raw cand
  have placed : place = Grade.place := by
    funext g
    cases g <;> rfl
  have rawIs : rawGrade t m = raw := rfl
  have candIs : candidateGrade t m = cand := rfl
  rw [placed, ← rawIs, ← candIs]
  refine ⟨⟨rfl, rfl, rawGrade_place_le t m⟩, ThrSet.Ordered.raised, gradeStep_of_blind, gradeStep_of_rise,
    gradeStep_of_confirmed, fun seen noRise free => ?_⟩
  rw [gradeStep_of_no_rise seen noRise, if_neg (by simp [free])]
  refine ⟨fun notBetter => ?_, fun better dwelling => ?_, fun better dwelt => ?_⟩
  · rw [if_neg (Nat.not_lt_of_le notBetter)]
  · rw [if_pos better, if_neg (Nat.not_le_of_lt dwelling)]
  · rw [if_pos better, if_pos dwelt]

end Sys2Proof.Machine
end

section
/-! PROOFS. Further footprints: what silence, the zones, the uplink turn controller, the lines and the router's own
frames can change (chapters 4, 7, 8 and 9). -/

namespace Sys2Proof.Machine

/-- One more footprint inside the same fields. -/
theorem State.Changes.andThen {s t u : State} {fs gs : List Field} (h : s.Changes t fs) (k : t.Changes u gs)
    (inside : ∀ f ∈ gs, f ∈ fs := by decide) : s.Changes u fs := h.trans (k.mono inside)

/-! ### Silence -/

/-- What a change of SILENT with its LINK event can touch (R158, R163). -/
def silenceFields : List Field := [.turn, .due] ++ reportFields

theorem State.endSilence_changes (s : State) : s.Changes s.endSilence silenceFields := by
  unfold State.endSilence
  split
  · exact ((s.updTurn_changes _).mono (by decide)).andThen (State.raise_changes _ _) |>.andThen
      (State.evalCondense_changes _)
  · exact .refl s _

theorem State.enterSilent_changes (s : State) : s.Changes s.enterSilent silenceFields :=
  ((s.updTurn_changes _).mono (by decide)).andThen (State.setDue_changes _ _) |>.andThen
    (State.raise_changes _ _) |>.andThen (State.evalCondense_changes _)

theorem State.clearAlarm_changes (s : State) : s.Changes s.clearAlarm reportFields :=
  ((s.setAlarmLoss_changes _).mono (by decide)).andThen (State.evalCondense_changes _)

/-! ### Zones -/

theorem State.accumulateAir_changes (s : State) (sel : Selector) (e : Nat) :
    s.Changes (s.accumulateAir sel e) [.zones] := by
  unfold State.accumulateAir
  split
  · exact .refl s _
  · exact s.updZone_changes _ _

theorem State.zoneDelivered_changes (s : State) (z : Fin 32) (e : Nat) (td : Int) :
    s.Changes (s.zoneDelivered z e td) (.zones :: reportFields) :=
  ((s.updZone_changes _ _).mono (by decide)).andThen (State.raiseZone_changes _ z)

theorem State.reencodeAll_changes (s : State) : s.Changes s.reencodeAll [.zones] :=
  State.Changes.foldl State.reencode_changes _ s

/-- An epoch expiry touches the zones, the engine's work and the reports (R65 to R67, R110). -/
theorem State.epochExpires_changes (s : State) :
    s.Changes s.epochExpires ([.epochCount, .zones, .zoneClose, .job, .evalQueue] ++ reportFields) :=
  ((s.setEpochCount_changes 0).mono (by decide)).andThen (State.closeZones_changes _) |>.andThen
    (State.takeIfIdle_changes _) |>.andThen (State.Changes.foldl State.raiseZone_changes _ _) |>.andThen
    (State.flushSlots_changes _)

/-! ### The uplink -/

/-- What the uplink turn controller can touch (chapter 9). -/
def uplinkFields : List Field := [.turn, .slots, .ports, .due] ++ reportFields

theorem State.withdraw_changes (s : State) (c : Committed) : s.Changes (s.withdraw c) uplinkFields := by
  have freed : s.Changes (s.updTurn fun t => { t with withU := none }) uplinkFields :=
    (s.updTurn_changes _).mono (by decide)
  unfold State.withdraw
  dsimp only
  split
  · exact freed.andThen (State.updTurn_changes _ _)
  · exact freed.andThen (State.setSlot_changes _ _ _)
  · exact freed.andThen (State.updTurn_changes _ _)
  · exact freed

theorem State.beginTurn_changes (s : State) (budget : Nat) (tag : Byte) :
    s.Changes (s.beginTurn budget tag) uplinkFields := by
  have begun : s.Changes (s.updTurn fun t =>
      { t with state := .turn, budget := budget, sent := 0, run := 0, tag := tag }) uplinkFields :=
    (s.updTurn_changes _).mono (by decide)
  unfold State.beginTurn
  dsimp only
  split
  · exact begun.andThen (State.frameOpportunity_changes _)
  · split
    · exact begun.andThen (State.updTurn_changes _ _)
    · exact begun.andThen (State.withdraw_changes _ _) |>.andThen (State.frameOpportunity_changes _)

/-- A GRANT touches the turn controller, the slots, and the reports of the end of SILENT (R158). -/
theorem State.takeGrant_changes (s : State) (f : Frame) : s.Changes (s.takeGrant f) uplinkFields :=
  ((s.updTurn_changes _).mono (by decide)).andThen (State.endSilence_changes _) |>.andThen
    (State.beginTurn_changes _ _ _)

theorem State.pollSlot_changes (s : State) (f : Frame) (i : Fin 16) : s.Changes (s.pollSlot f i) uplinkFields := by
  have status (st : Status) : s.Changes (s.pollStatus f st) uplinkFields :=
    (s.joinReplies_changes _ _).mono (by decide)
  have answered : s.Changes (if (s.slot i).binding.inhibit then s.pollStatus f .deferred
      else (s.slotTaken i).joinReplies (s.reportFrame i f.env.tag) (.pollReport i)) uplinkFields := by
    split
    · exact status _
    · exact ((s.setSlot_changes _ _).mono (by decide)).andThen (State.joinReplies_changes _ _ _)
  unfold State.pollSlot
  split
  · exact answered
  · exact answered
  · exact status _
  · exact status _
  · exact status _

/-- A POLL touches the turn controller, and the slot it takes (R115). -/
theorem State.takePoll_changes (s : State) (f : Frame) : s.Changes (s.takePoll f) uplinkFields := by
  have status (st : Status) : s.Changes (s.pollStatus f st) uplinkFields :=
    (s.joinReplies_changes _ _).mono (by decide)
  unfold State.takePoll
  split
  · exact status _
  · split
    · exact s.pollSlot_changes f _
    · exact status _

theorem State.uStarts_changes (s : State) : s.Changes s.uStarts [.ports] := by
  unfold State.uStarts
  dsimp only
  split
  · exact .refl s _
  · split
    · exact s.setPort_changes _ _
    · exact .refl s _

theorem State.afterSent_changes (s : State) : s.Changes s.afterSent uplinkFields := by
  have listening : s.Changes (s.updTurn fun t => { t with state := .listen }) uplinkFields :=
    (s.updTurn_changes _).mono (by decide)
  unfold State.afterSent
  split
  · exact .refl s _
  · split
    · exact s.frameOpportunity_changes.mono (by decide)
    · exact listening.andThen (State.commitReply_changes _)
    · exact listening.andThen (State.commitReply_changes _)

theorem State.settleSent_changes (s : State) (src : TxSource) : s.Changes (s.settleSent src) uplinkFields := by
  have slot (i : Fin 16) : s.Changes (s.slotSent i).afterSent uplinkFields :=
    ((s.setSlot_changes _ _).mono (by decide)).andThen (State.afterSent_changes _)
  unfold State.settleSent
  split
  · exact slot _
  · exact ((s.replyEnds_changes _).mono (by decide)).andThen (State.afterSent_changes _)
  · exact slot _
  · exact s.afterSent_changes
  · exact ((s.updTurn_changes _).mono (by decide)).andThen (State.commitReply_changes _)

/-- The end of a frame on U touches its port, the turn controller, its slot, and a RESTART that was answered (R131). -/
theorem State.uSent_changes (s : State) : s.Changes s.uSent uplinkFields := by
  unfold State.uSent
  split
  · exact ((s.updPort_changes _ _).mono (by decide)).andThen (State.updTurn_changes _ _) |>.andThen
      (State.settleSent_changes _ _)
  · exact .refl s _

theorem State.slotCollision_changes (s : State) (i : Fin 16) : s.Changes (s.slotCollision i) [.slots] := by
  unfold State.slotCollision
  split
  · exact s.setSlot_changes _ _
  · exact s.setSlot_changes _ _

theorem State.settleCollision_changes (s : State) (src : TxSource) :
    s.Changes (s.settleCollision src) uplinkFields := by
  unfold State.settleCollision
  split
  · exact (s.slotCollision_changes _).mono (by decide)
  · exact (s.replyEnds_changes _).mono (by decide)
  · exact (s.slotCollision_changes _).mono (by decide)
  · exact (s.updTurn_changes _).mono (by decide)
  · exact .refl s _

/-- A collision on U touches what the end of a frame on U does (R131, R162). -/
theorem State.uCollides_changes (s : State) : s.Changes s.uCollides uplinkFields := by
  unfold State.uCollides
  split
  · exact .refl s _
  · have settled (f : PortRec → PortRec) (g : Turn → Turn) (src : TxSource) :
        s.Changes (((s.updPort .u f).updTurn g).settleCollision src) uplinkFields :=
      ((s.updPort_changes _ _).mono (by decide)).andThen (State.updTurn_changes _ _) |>.andThen
        (State.settleCollision_changes _ _)
    dsimp only
    split
    · exact settled _ _ _
    · exact (settled _ _ _).andThen (State.commitReply_changes _)

/-! ### Lines and router -/

theorem State.receiveChar_changes (s : State) (p : Port) (l : LineChar) (ended : Bool) :
    s.Changes (s.receiveChar p l ended) [.ports] := by
  unfold State.receiveChar
  split
  · exact s.updPort_changes _ _
  · exact .refl s _

theorem State.signalLost_changes (s : State) (p : FloorPort) :
    s.Changes (s.signalLost p) (.ports :: reportFields) := by
  unfold State.signalLost
  split
  · exact ((s.updPort_changes _ _).mono (by decide)).andThen (State.raise_changes _ _)
  · exact .refl s _

theorem State.signalBack_changes (s : State) (p : FloorPort) :
    s.Changes (s.signalBack p) (.ports :: reportFields) := by
  unfold State.signalBack
  split
  · exact .refl s _
  · exact ((s.updPort_changes _ _).mono (by decide)).andThen (State.raise_changes _ _)

theorem State.settingsAll_changes (s : State) : s.Changes s.settingsAll [.ports] :=
  State.Changes.foldl (fun t p => t.updPort_changes p _) _ s

theorem State.routeNodeCmd_changes (s : State) (f : Frame) : s.Changes (s.routeNodeCmd f) [.ports] :=
  State.Changes.foldl (fun t p => t.updPort_changes (.floor p) _) _ s

theorem State.routeNodeStatus_changes (s : State) (p : FloorPort) (f : Frame) :
    s.Changes (s.routeNodeStatus p f) [.ports, .turn, .counters] := by
  unfold State.routeNodeStatus
  split
  · exact (s.countRouter_changes _ _).mono (by decide)
  · split
    · exact (s.offerFq_changes f).mono (by decide)
    · exact (s.count_changes _).mono (by decide)

end Sys2Proof.Machine
end

section
/-! PROOFS. What a management request can do to the tables: one inversion lemma for each of WRITE, EXCHANGE, SVT_LOAD
and CLEAR (R174, R180 to R184). -/

namespace Sys2Proof.Machine

/-! ### Entries -/

/-- What a WRITE can touch where it stores neither a descriptor nor a surface record. -/
def entryFields : List Field := [.thr, .zones, .slots, .config, .epochCount, .ports]

section
variable {s u : State} {data : List Byte}

theorem State.writeThrSet_changes {i : Fin 8} (ok : s.writeThrSet i data = .ok u) : s.Changes u [.thr] := by
  unfold State.writeThrSet at ok
  split at ok
  · cases ok
  · obtain rfl := Except.ok.inj ok
    exact s.setThr_changes _

theorem State.writeZoneConfig_changes {z : Fin 32} (ok : s.writeZoneConfig z data = .ok u) :
    s.Changes u [.zones] := by
  unfold State.writeZoneConfig at ok
  split at ok
  · cases ok
  · obtain rfl := Except.ok.inj ok
    exact s.updZone_changes _ _

theorem State.writeSlotBinding_changes {i : Fin 16} (ok : s.writeSlotBinding i data = .ok u) :
    s.Changes u [.slots] := by
  unfold State.writeSlotBinding at ok
  split at ok
  · split at ok
    · cases ok
    · obtain rfl := Except.ok.inj ok
      exact s.setSlot_changes _ _
  · cases ok

theorem State.writeEpoch_changes (ok : s.writeEpoch data = .ok u) : s.Changes u [.config, .epochCount] := by
  unfold State.writeEpoch at ok
  split at ok
  · split at ok
    · obtain rfl := Except.ok.inj ok
      exact ((s.setConfig_changes _).mono (by decide)).andThen (State.setEpochCount_changes _ _)
    · cases ok
  · cases ok

theorem State.writeSilence_changes (ok : s.writeSilence data = .ok u) : s.Changes u [.config] := by
  unfold State.writeSilence at ok
  split at ok
  · split at ok
    · obtain rfl := Except.ok.inj ok
      exact s.setConfig_changes _
    · cases ok
  · cases ok

theorem State.writeLines_changes {arrival : Port} (ok : s.writeLines arrival data = .ok u) :
    s.Changes u [.config, .ports] := by
  unfold State.writeLines at ok
  split at ok
  · cases ok
  · obtain rfl := Except.ok.inj ok
    exact ((s.setConfig_changes _).mono (by decide)).andThen
      (State.Changes.foldl (fun t _ => t.setPorts_changes _) _ _)

/-- An accepted WRITE stores a descriptor, or a surface record, or touches neither table. -/
theorem State.writeEntry_cases {table : Table} {arrival : Port} {i : Byte}
    (ok : s.writeEntry table arrival i data = .ok u) :
    (∃ sel c, u = s.storeDesc sel c) ∨ (∃ j c, u = s.storeSurface j (s.writtenSurface j c)) ∨
      s.Changes u entryFields := by
  cases table with
  | sdt =>
    simp only [State.writeEntry, State.writeDesc] at ok
    split at ok
    · cases ok
    · exact .inl ⟨_, _, (Except.ok.inj ok).symm⟩
  | svtActive => cases ok
  | svtShadow => cases ok
  | sft =>
    simp only [State.writeEntry, State.writeSurface] at ok
    split at ok
    · split at ok
      · cases ok
      · exact .inr (.inl ⟨_, _, (Except.ok.inj ok).symm⟩)
    · cases ok
  | thr =>
    simp only [State.writeEntry] at ok
    split at ok
    · exact .inr (.inr ((State.writeThrSet_changes ok).mono (by decide)))
    · cases ok
  | zone =>
    simp only [State.writeEntry] at ok
    split at ok
    · exact .inr (.inr ((State.writeZoneConfig_changes ok).mono (by decide)))
    · cases ok
  | slot =>
    simp only [State.writeEntry] at ok
    split at ok
    · exact .inr (.inr ((State.writeSlotBinding_changes ok).mono (by decide)))
    · cases ok
  | config =>
    simp only [State.writeEntry] at ok
    split at ok
    · exact .inr (.inr ((State.writeEpoch_changes ok).mono (by decide)))
    · exact .inr (.inr ((State.writeSilence_changes ok).mono (by decide)))
    · exact .inr (.inr ((State.writeLines_changes ok).mono (by decide)))
    · cases ok

/-- An accepted EXCHANGE stores a surface record, or a threshold set. -/
theorem State.exchangeEntry_cases {table : Table} {i : Byte} {v : State × List Byte}
    (ok : s.exchangeEntry table i data = .ok v) :
    (∃ j c, v.1 = s.storeSurface j (s.exchangedSurface j c)) ∨ s.Changes v.1 [.thr] := by
  unfold State.exchangeEntry at ok
  split at ok
  · split at ok
    · have stored := Except.of_map_ok ok
      unfold State.exchangeSurface at stored
      split at stored
      · cases stored
      · exact .inl ⟨_, _, (Except.ok.inj stored).symm⟩
    · cases ok
  · split at ok
    · exact .inr (State.writeThrSet_changes (Except.of_map_ok ok))
    · cases ok
  · cases ok

end

/-! ### Answers -/

/-- A WRITE leaves the state, or carries out an accepted entry. -/
theorem State.writeAnswer_cases (s : State) (p : Port) (level : Nat) (a : Args) :
    (s.writeAnswer p level a).1 = s ∨
      ∃ table, s.writeEntry table p a.index a.data = .ok (s.writeAnswer p level a).1 := by
  unfold State.writeAnswer
  split
  · exact .inl rfl
  · split
    · exact .inl rfl
    · split
      · exact .inl rfl
      · split
        · exact .inl rfl
        · split
          · exact .inl rfl
          · next ok => exact .inr ⟨_, ok⟩

/-- An EXCHANGE leaves the state, or carries out an accepted entry. -/
theorem State.exchangeAnswer_cases (s : State) (level : Nat) (a : Args) :
    (s.exchangeAnswer level a).1 = s ∨
      ∃ table v, s.exchangeEntry table a.index a.data = .ok v ∧ v.1 = (s.exchangeAnswer level a).1 := by
  unfold State.exchangeAnswer
  split
  · exact .inl rfl
  · split
    · exact .inl rfl
    · split
      · exact .inl rfl
      · split
        · exact .inl rfl
        · split
          · exact .inl rfl
          · next ok => exact .inr ⟨_, _, ok, rfl⟩

/-- A CLEAR leaves the state, or clears its target. -/
theorem State.clearAnswer_cases (s : State) (level : Nat) (a : Args) :
    (s.clearAnswer level a).1 = s ∨ ∃ target, (s.clearAnswer level a).1 = s.clear target := by
  unfold State.clearAnswer
  split
  · exact .inl rfl
  · split
    · exact .inl rfl
    · split
      · exact .inl rfl
      · exact .inr ⟨_, rfl⟩

theorem State.loadAnswer_changes (s : State) (level : Nat) (a : Args) :
    s.Changes (s.loadAnswer level a).1 [.svt] := by
  unfold State.loadAnswer
  split_ifs
  · exact .refl s _
  · exact .refl s _
  · exact .refl s _
  · exact .refl s _
  · exact s.setSvt_changes _

/-! ### Completions -/

theorem State.serviceEnds_changes (s : State) : s.Changes s.serviceEnds [.mgmt, .ports, .turn] := by
  unfold State.serviceEnds
  split
  · exact ((s.setMgmt_changes _).mono (by decide)).andThen (State.handReply_changes _ _ _ _)
  · exact .refl s _

theorem State.commitEnds_changes (s : State) : s.Changes s.commitEnds [.svt, .mgmt, .ports, .turn] := by
  unfold State.commitEnds
  split
  · split
    · exact ((s.setSvt_changes _).mono (by decide)).andThen (State.setMgmt_changes _ _) |>.andThen
        (State.handReply_changes _ _ _ _)
    · exact ((s.setMgmt_changes _).mono (by decide)).andThen (State.handReply_changes _ _ _ _)
  · exact .refl s _

end Sys2Proof.Machine
end

section
/-! PROOFS. The fifth law record by record: when a surface record obeys its pad, and the operations of the surface
block that keep it so (R78, R81, R82, R86 to R95). -/

namespace Sys2Proof.Machine

/-! ### What a footprint leaves -/

section
variable {s t : State} {fs : List Field} (k : s.Changes t fs)
include k

theorem State.Changes.desc (sdt : .sdt ∉ fs) (sel : Selector) : t.desc sel = s.desc sel :=
  congrArg (fun v : Tbl 256 Descriptor => v.get sel.toFin) (k .sdt sdt)

theorem State.Changes.surface (surfaces : .surfaces ∉ fs) {i : Fin 64} : t.surface i = s.surface i :=
  congrArg (fun v : Tbl 64 Surface => v.get i) (k .surfaces surfaces)

end

/-! ### Pads -/

/-- A WETNESS descriptor, LIVE, whose last accepted sample reported water (R81, R92). -/
def Descriptor.ReportsWater (d : Descriptor) : Prop :=
  ∃ k, d.config = some k ∧ k.kind = .wetness ∧ d.phase = .live ∧ d.lastWet = some .water

theorem Descriptor.ReportsWater.live {d : Descriptor} (h : d.ReportsWater) : d.phase = .live := by
  obtain ⟨_, _, _, live, _⟩ := h
  exact live

/-- A pad is in force exactly where it names a descriptor that reports water (R81). -/
theorem State.padInForce_iff (s : State) (p : Option Selector) :
    s.padInForce p = true ↔ ∃ w, p = some w ∧ (s.desc w).ReportsWater := by
  cases p with
  | none => simp [State.padInForce]
  | some w =>
    cases present : (s.desc w).config with
    | none => simp [State.padInForce, Descriptor.ReportsWater, present]
    | some k =>
      simp [State.padInForce, Descriptor.ReportsWater, Descriptor.state, present, Phase.state_eq_live, and_assoc]

/-- A record that, in use, holds CONFIRMED in grade WET alone, and holds it while its pad is in force (R78, R92). -/
def State.Obeys (s : State) (r : Surface) : Prop :=
  ∀ c, r.config = some c →
    (r.confirmed = true → r.grade = .wet) ∧ (s.padInForce c.wetness = true → r.confirmed = true)

/-- The record with an index obeys its pad. -/
def State.ObeysAt (s : State) (i : Fin 64) : Prop := s.Obeys (s.surface i)

/-- The fifth law says it of every record. -/
theorem State.padsObeyed_iff (s : State) : s.PadsObeyed ↔ ∀ i, s.ObeysAt i := by
  refine forall_congr' fun i => forall_congr' fun c => forall_congr' fun _ => and_congr_right fun wetOnly => ?_
  rw [State.padInForce_iff]
  constructor
  · rintro h ⟨w, pad, k, config, kind, live, water⟩
    exact (h w k pad config kind live water).2
  · intro h w k pad config kind live water
    have confirmed := h ⟨w, pad, k, config, kind, live, water⟩
    exact ⟨wetOnly confirmed, confirmed⟩

section
variable {s t : State} {r r' : Surface}

theorem State.Obeys.unused (config : r.config = none) : s.Obeys r := by simp [State.Obeys, config]

/-- A record of the same configuration and CONFIRMED, whose WET has not been lost under it. -/
theorem State.Obeys.same (h : s.Obeys r) (config : r'.config = r.config) (confirmed : r'.confirmed = r.confirmed)
    (holds : r.confirmed = true → r.grade = .wet → r'.grade = .wet) : s.Obeys r' := by
  intro c used
  rw [confirmed]
  obtain ⟨wetOnly, inForce⟩ := h c (config ▸ used)
  exact ⟨fun now => holds now (wetOnly now), inForce⟩

/-- A record obeys still where its pad has not come into force. -/
theorem State.Obeys.congr (h : s.Obeys r)
    (pad : ∀ c w, r.config = some c → c.wetness = some w → (t.desc w).ReportsWater → (s.desc w).ReportsWater) :
    t.Obeys r := by
  intro c used
  obtain ⟨wetOnly, inForce⟩ := h c used
  refine ⟨wetOnly, fun now => inForce ?_⟩
  rw [State.padInForce_iff] at now ⊢
  obtain ⟨w, named, water⟩ := now
  exact ⟨w, named, pad c w used named water⟩

/-- CONFIRMED and WET: nothing more is asked of a record. -/
theorem State.Obeys.wet (grade : r.grade = .wet) (confirmed : r.confirmed = true) : s.Obeys r :=
  fun _ _ => ⟨fun _ => grade, fun _ => confirmed⟩

/-- Without CONFIRMED a record obeys where its pad is not in force. -/
theorem State.Obeys.unconfirmed (confirmed : r.confirmed = false)
    (pad : ∀ c, r.config = some c → s.padInForce c.wetness = false) : s.Obeys r := by
  intro c used
  simp [confirmed, pad c used]

/-- An evaluation leaves CONFIRMED, and never a confirmed WET (R87). -/
theorem State.Obeys.graded (h : s.Obeys r) (set : ThrSet) (m : Int) (src : Source) :
    s.Obeys (r.graded set m src) :=
  h.same rfl rfl fun confirmed wet => by simp only [Surface.graded, gradeStep_of_wet wet confirmed]

/-- A lost margin leaves the grade of a confirmed record (R85, R93). -/
theorem State.Obeys.blinded (h : s.Obeys r) : s.Obeys r.blinded :=
  h.same rfl rfl fun confirmed wet => by simp [Surface.blinded, confirmed, wet]

/-- A state with the same descriptors and surface records. -/
theorem State.ObeysAt.changes {i : Fin 64} (h : s.ObeysAt i) {fs : List Field} (k : s.Changes t fs)
    (sdt : .sdt ∉ fs := by decide) (surfaces : .surfaces ∉ fs := by decide) : t.ObeysAt i := by
  rw [State.ObeysAt, k.surface surfaces]
  exact h.congr fun _ w _ _ => k.desc sdt w ▸ id

end

/-! ### Storing a record -/

section
variable {s : State} {i j : Fin 64} {r : Surface}

theorem State.setSurface_obeysAt (own : j = i → s.Obeys r) (other : j ≠ i → s.ObeysAt j) :
    (s.setSurface i r).ObeysAt j := by
  have record : s.Obeys ((s.setSurface i r).surface j) := by
    by_cases e : j = i
    · subst e
      simpa using own rfl
    · rw [State.setSurface_surface_ne s r e]
      exact other e
  exact record.congr fun _ _ _ _ => id

/-- A grade change counts itself in the record and leaves what the law speaks of (R96). -/
theorem State.ObeysAt.gradeChanged (h : s.ObeysAt j) (left : Grade) : (s.gradeChanged i left).ObeysAt j := by
  unfold State.gradeChanged
  split
  · exact h
  · have counted : (s.setSurface i { s.surface i with changes := satInc (s.surface i).changes }).ObeysAt j :=
      State.setSurface_obeysAt (fun e => State.Obeys.same (e ▸ h) rfl rfl fun _ => id) fun _ => h
    dsimp only
    split
    · exact ((counted.changes (State.raise_changes _ _)).changes (State.reencode_changes _ _)).changes
        (State.evalCondense_changes _)
    · exact (counted.changes (State.reencode_changes _ _)).changes (State.evalCondense_changes _)

theorem State.regrade_obeysAt {left : Grade} (own : j = i → s.Obeys r) (other : j ≠ i → s.ObeysAt j) :
    (s.regrade i left r).ObeysAt j := by
  have stored : (s.setSurface i r).ObeysAt j := State.setSurface_obeysAt own other
  unfold State.regrade
  dsimp only
  split
  · exact stored.gradeChanged left
  · exact stored

end

/-! ### The law kept -/

theorem State.mem_padSurfaces (s : State) (sel : Selector) (i : Fin 64) :
    i ∈ s.padSurfaces sel ↔ ∃ c, (s.surface i).config = some c ∧ c.wetness = some sel := by
  simp only [State.padSurfaces, Tbl.mem_indices, State.surface]
  cases (s.surfaces.get i).config <;> simp

section
variable {s t : State} (h : s.PadsObeyed)
include h

theorem State.PadsObeyed.obeysAt (i : Fin 64) : s.ObeysAt i := (State.padsObeyed_iff s).mp h i

/-- What touches neither descriptors nor surface records keeps the law. -/
theorem State.PadsObeyed.changes {fs : List Field} (k : s.Changes t fs) (sdt : .sdt ∉ fs := by decide)
    (surfaces : .surfaces ∉ fs := by decide) : t.PadsObeyed :=
  (State.padsObeyed_iff t).mpr fun i => (h.obeysAt i).changes k sdt surfaces

omit h in
/-- A fold keeps the law where each of its steps does. -/
theorem State.PadsObeyed.foldl {α : Type} {f : State → α → State}
    (each : ∀ (u : State) (a : α), u.PadsObeyed → (f u a).PadsObeyed) (h : s.PadsObeyed) (l : List α) :
    (l.foldl f s).PadsObeyed := List.foldlRecOn l f h fun u hu a _ => each u a hu

theorem State.PadsObeyed.setSurface (i : Fin 64) {r : Surface} (own : s.Obeys r) : (s.setSurface i r).PadsObeyed :=
  (State.padsObeyed_iff _).mpr fun j => State.setSurface_obeysAt (fun _ => own) fun _ => h.obeysAt j

theorem State.PadsObeyed.regrade (i : Fin 64) (left : Grade) {r : Surface} (own : s.Obeys r) :
    (s.regrade i left r).PadsObeyed :=
  (State.padsObeyed_iff _).mpr fun j => State.regrade_obeysAt (fun _ => own) fun _ => h.obeysAt j

/-! ### Evaluations and notices -/

theorem State.PadsObeyed.evaluate (i : Fin 64) (part : Option (Int × Source)) : (s.evaluate i part).PadsObeyed := by
  unfold State.evaluate
  dsimp only
  split
  · exact h
  · split
    · exact h.regrade i _ ((h.obeysAt i).graded _ _ _)
    · exact h.regrade i _ (h.obeysAt i).blinded

theorem State.PadsObeyed.probeLost (i : Fin 64) : (s.probeLost i).PadsObeyed := h.regrade i _ (h.obeysAt i).blinded

omit h in
/-- WATER at every record of a pad: the law stands after it where it stood at the other records (R90). -/
theorem State.foldl_wetted_obeysAt {i : Fin 64} (l : List (Fin 64)) (s : State) (other : i ∉ l → s.ObeysAt i) :
    (l.foldl State.wetted s).ObeysAt i := by
  induction l generalizing s with
  | nil => exact other List.not_mem_nil
  | cons j l ih =>
    refine ih _ fun later => State.regrade_obeysAt (fun _ => .wet rfl rfl) fun apart => other ?_
    simp [apart, later]

omit h in
theorem State.unconfirmed_config (s : State) (i j : Fin 64) :
    ((s.unconfirmed i).surface j).config = (s.surface j).config := by
  unfold State.unconfirmed
  by_cases e : j = i
  · subst e
    simp
  · rw [State.setSurface_surface_ne s _ e]

omit h in
/-- CONFIRMED is cleared at records of a pad that does not report water (R91, R94). -/
theorem State.PadsObeyed.foldl_unconfirmed (h : s.PadsObeyed) {sel : Selector} {l : List (Fin 64)}
    (pad : ¬ (s.desc sel).ReportsWater) (named : ∀ i ∈ l, i ∈ s.padSurfaces sel) :
    (l.foldl State.unconfirmed s).PadsObeyed := by
  induction l generalizing s with
  | nil => exact h
  | cons i l ih =>
    refine ih (h.setSurface i (.unconfirmed rfl fun c used => ?_)) pad fun j hj => ?_
    · obtain ⟨d, config, wetness⟩ := (s.mem_padSurfaces sel i).mp (named i (by simp))
      obtain rfl : d = c := Option.some.inj (config.symm.trans used)
      rw [← Bool.not_eq_true, State.padInForce_iff, wetness]
      rintro ⟨w, ⟨⟩, water⟩
      exact pad water
    · rw [State.mem_padSurfaces, State.unconfirmed_config, ← State.mem_padSurfaces]
      exact named j (by simp [hj])

/-- A probe notice of a descriptor that is not LIVE (R93 to R95). -/
theorem State.PadsObeyed.probeNotice (kind : SensorKind) {sel : Selector} (lost : (s.desc sel).phase ≠ .live) :
    (s.probeNotice kind sel).PadsObeyed := by
  cases kind with
  | air => exact h
  | surface => exact State.PadsObeyed.foldl (fun u i hu => hu.probeLost i) h _
  | wetness => exact h.foldl_unconfirmed (fun water => lost water.live) fun _ => id

/-! ### WRITE and EXCHANGE of a surface record -/

omit h in
/-- A written record takes WET with CONFIRMED from a pad in force (R81). -/
theorem State.writtenSurface_obeys (s : State) (i : Fin 64) (c : Option SurfaceConfig) :
    s.Obeys (s.writtenSurface i c) := by
  unfold State.writtenSurface
  dsimp only
  split
  · exact .unused rfl
  · next c =>
    split
    · exact .wet rfl rfl
    · next idle =>
      refine .unconfirmed rfl fun d used => ?_
      obtain rfl : c = d := Option.some.inj used
      exact Bool.not_eq_true _ ▸ idle

/-- An exchanged record keeps CONFIRMED under the same pad, and takes it from a pad in force otherwise (R82). -/
theorem State.PadsObeyed.exchangedSurface (i : Fin 64) (c : Option SurfaceConfig) :
    s.Obeys (s.exchangedSurface i c) := by
  cases c with
  | none => exact .unused rfl
  | some c =>
    rintro _ ⟨⟩
    cases config : (s.surface i).config with
    | none => simp +contextual [State.exchangedSurface, config]
    | some old =>
      by_cases same : old.wetness = c.wetness
      · simpa [State.exchangedSurface, config, same] using h.obeysAt i old config
      · simp +contextual [State.exchangedSurface, config, same]

theorem State.PadsObeyed.storeSurface (i : Fin 64) {r : Surface} (own : s.Obeys r) :
    (s.storeSurface i r).PadsObeyed := by
  have stored : (if r.config.isSome then s.regrade i (s.surface i).gradeBefore r
      else s.setSurface i r).PadsObeyed := by
    split
    · exact h.regrade i _ own
    · exact h.setSurface i own
  exact ((stored.changes (State.reencodeOf_changes _ _)).changes (State.reencodeOf_changes _ _)).changes
    (State.evalCondense_changes _)

theorem State.PadsObeyed.clearSurfaceCounts : s.clearSurfaceCounts.PadsObeyed := by
  refine (State.padsObeyed_iff _).mpr fun i => ?_
  have record : s.clearSurfaceCounts.surface i = { s.surface i with changes := 0 } := Tbl.get_map _ _ i
  rw [State.ObeysAt, record]
  exact ((h.obeysAt i).same rfl rfl fun _ => id).congr fun _ _ _ _ => id

end

end Sys2Proof.Machine
end

section
/-! PROOFS. A law kept by every step: the operations that steps are made of, once for every law (chapters 8 and 11). -/

namespace Sys2Proof.Machine

/-- A law that does not speak of pins, ports and the queue of commands, kept by each operation that a step is made
of. -/
structure State.KeptByOperations (P : State → Prop) : Prop where
  outside : ∀ {s t : State}, s.Changes t [.pins, .ports, .pending] → P s → P t
  raise : ∀ (s : State) (e : Event), P s → P (s.raise e)
  enterReset : ∀ s : State, P s → P s.enterReset
  powerUp : ∀ (s : State) (straps : BitVec 3), P s → P (s.powerUp straps)
  loseSupply : ∀ s : State, P s → P s.loseSupply
  restartEffect : ∀ s : State, P s → P s.restartEffect
  tick : ∀ s : State, P s → P s.tick
  goStale : ∀ (s : State) (sel : Selector), P s → P (s.goStale sel)
  epochExpires : ∀ s : State, P s → P s.epochExpires
  enterSilent : ∀ s : State, P s → P s.enterSilent
  routeFrame : ∀ (s : State) (p : Port) (f : Frame), P s → P (s.routeFrame p f)
  uSent : ∀ s : State, P s → P s.uSent
  uCollides : ∀ s : State, P s → P s.uCollides
  completeAir : ∀ s : State, P s → P s.completeAir
  completeSurface : ∀ s : State, P s → P s.completeSurface
  completeZone : ∀ s : State, P s → P s.completeZone
  commitEnds : ∀ s : State, P s → P s.commitEnds
  serviceEnds : ∀ s : State, P s → P s.serviceEnds

theorem State.setCommission_changes (level : Bool) (s : State) : s.Changes (s.setCommission level) [.pins] :=
  s.setPins_changes _

theorem State.setLos_changes (p : FloorPort) (level : Bool) (s : State) : s.Changes (s.setLos p level) [.pins] :=
  s.setPins_changes _

theorem State.setPending_changes (s : State) (v : List Instr) : s.Changes (s.setPending v) [.pending] := by
  intro f apart
  cases f
  case pending => exact absurd (List.mem_singleton_self _) apart
  all_goals rfl

section
variable {P : State → Prop} (ops : State.KeptByOperations P)
include ops

/-! ### What is due -/

theorem State.KeptByOperations.updPort (s : State) (p : Port) (f : PortRec → PortRec) (h : P s) :
    P (s.updPort p f) := ops.outside ((s.updPort_changes p f).mono (by decide)) h

theorem State.KeptByOperations.settingsAll (s : State) (h : P s) : P s.settingsAll :=
  ops.outside (s.settingsAll_changes.mono (by decide)) h

theorem State.KeptByOperations.routeBuffered (s : State) (p : Port) (h : P s) : P (s.routeBuffered p) := by
  unfold State.routeBuffered
  split
  · exact h
  · exact ops.routeFrame _ _ _ (ops.updPort _ _ _ h)

theorem State.KeptByOperations.restartIfDue (s : State) (h : P s) : P s.restartIfDue := by
  unfold State.restartIfDue
  split
  · exact ops.restartEffect s h
  · exact h

theorem State.KeptByOperations.epochIfDue (s : State) (h : P s) : P s.epochIfDue := by
  unfold State.epochIfDue
  split
  · exact ops.epochExpires s h
  · exact h

theorem State.KeptByOperations.silenceIfDue (s : State) (h : P s) : P s.silenceIfDue := by
  unfold State.silenceIfDue
  split
  · exact ops.enterSilent s h
  · exact h

/-- What is due, in the order in which it is carried out. -/
theorem State.KeptByOperations.settle (s : State) (h : P s) : P s.settle := by
  have routed : P s.settingsAll.routeAll :=
    List.foldlRecOn _ _ (ops.settingsAll s h) fun u hu p _ => ops.routeBuffered u p hu
  have restarted := ops.restartIfDue _ routed
  have stale : P s.settingsAll.routeAll.restartIfDue.staleAll :=
    List.foldlRecOn _ _ restarted fun u hu sel _ => ops.goStale u sel hu
  exact ops.settingsAll _ (ops.silenceIfDue _ (ops.epochIfDue _ stale))

/-! ### The shapes of a command -/

section
variable {s t : State}

theorem State.KeptByOperations.actOn {pin f : State → State} (pins : ∀ u : State, u.Changes (pin u) [.pins])
    (acts : ∀ u, P u → P (f u)) (h : P s) (stepped : s.actOn pin f = .next t) : P t := by
  obtain rfl := Host.Outcome.next.inj stepped
  have pinned (u : State) (hu : P u) : P (pin u) := ops.outside ((pins u).mono (by decide)) hu
  split
  · exact acts _ (pinned _ (ops.settle s h))
  · exact pinned s h

theorem State.KeptByOperations.act {f : State → State} (acts : ∀ u, P u → P (f u)) (h : P s)
    (stepped : s.act f = .next t) : P t := ops.actOn (fun u => .refl u _) acts h stepped

omit ops in
theorem State.actDue_law {due : Bool} {f : State → State} (acts : P s → P (f s)) (h : P s)
    (stepped : s.actDue due f = .next t) : P t := by
  obtain rfl := Host.Outcome.next.inj stepped
  split
  · exact acts h
  · exact h

theorem State.KeptByOperations.actFrameAt {pin : State → State} (pins : ∀ u : State, u.Changes (pin u) [.pins])
    {p : Port} {f : Frame} {row : FrameRow} (h : P s) (stepped : s.actFrameAt pin p f row = .next t) : P t := by
  unfold State.actFrameAt at stepped
  refine ops.actOn pins (fun u hu => ?_) h stepped
  split
  · exact ops.routeFrame u p f hu
  · exact hu

theorem State.KeptByOperations.actFrame {p : Port} {f : Frame} {row : FrameRow} (h : P s)
    (stepped : s.actFrame p f row = .next t) : P t := ops.actFrameAt (fun u => .refl u _) h stepped

theorem State.KeptByOperations.actRequest {p : Port} {row : RequestRow} {cmd table index : Byte} {r : MgmtOperand}
    (h : P s) (stepped : s.actRequest p row cmd table index r = .next t) : P t :=
  ops.actFrameAt (State.setCommission_changes _) h stepped

/-! ### The commands -/

theorem State.KeptByOperations.signalLost (p : FloorPort) (s : State) (h : P s) : P (s.signalLost p) := by
  unfold State.signalLost
  split
  · exact ops.raise _ _ (ops.updPort _ _ _ h)
  · exact h

theorem State.KeptByOperations.signalBack (p : FloorPort) (s : State) (h : P s) : P (s.signalBack p) := by
  unfold State.signalBack
  split
  · exact h
  · exact ops.raise _ _ (ops.updPort _ _ _ h)

theorem State.KeptByOperations.ofExec (c : Instr) (h : P s) (stepped : exec c s = .next t) : P t := by
  cases c with
  | resetAsserted =>
    obtain rfl := Host.Outcome.next.inj stepped
    exact ops.enterReset s h
  | powerOn straps =>
    obtain rfl := Host.Outcome.next.inj stepped
    exact ops.powerUp s straps h
  | supplyRemoved =>
    obtain rfl := Host.Outcome.next.inj stepped
    exact ops.loseSupply s h
  | secondsTick => exact ops.act ops.tick h stepped
  | stalenessExpiry sel =>
    rw [exec_stalenessExpiry] at stepped
    exact State.actDue_law (ops.goStale s sel) h stepped
  | epochExpiry => exact State.actDue_law (ops.epochExpires s) h stepped
  | silenceEntry => exact State.actDue_law (ops.enterSilent s) h stepped
  | restartTakesEffect => exact State.actDue_law (ops.restartEffect s) h stepped
  | settingsTakeEffect p =>
    rw [exec_settingsTakeEffect] at stepped
    exact State.actDue_law (ops.updPort s p _) h stepped
  | losAsserted p => exact ops.actOn (State.setLos_changes p true) (ops.signalLost p) h stepped
  | losReleased p => exact ops.actOn (State.setLos_changes p false) (ops.signalBack p) h stepped
  | characterReceived p l ended commission =>
    exact ops.actOn (State.setCommission_changes commission)
      (fun u hu => ops.outside ((u.receiveChar_changes p l ended).mono (by decide)) hu) h stepped
  | gapTimeout p => exact ops.act (fun u => ops.updPort u p _) h stepped
  | breakRecognised x => exact ops.act (fun u => ops.updPort u _ fun r => r.breakSeen x) h stepped
  | breakEnd x => exact ops.act (fun u => ops.updPort u _ fun r => r.pulseEnds x) h stepped
  | floorFrameSent p => exact ops.act (fun u => ops.updPort u (.floor p) _) h stepped
  | uTransmitStart => exact ops.act (fun u => ops.outside (u.uStarts_changes.mono (by decide))) h stepped
  | uFrameSent => exact ops.act ops.uSent h stepped
  | collision pos back =>
    rw [exec_collision] at stepped
    refine ops.act (fun u hu => ?_) h stepped
    split
    · exact ops.uCollides u hu
    · exact hu
  | airJobCompletion => exact ops.act ops.completeAir h stepped
  | surfaceJobCompletion => exact ops.act ops.completeSurface h stepped
  | zoneJobCompletion => exact ops.act ops.completeZone h stepped
  | commitCheckCompletion => exact ops.act ops.commitEnds h stepped
  | serviceCompletion => exact ops.act ops.serviceEnds h stepped
  | foreignFrameIgnored | sample | nodeStatus | nodeCmd | misdirectedFrame | unknownKindFrame | grant | poll =>
    exact ops.actFrame h stepped
  | malformedRequest p e commission payload => exact ops.actFrameAt (State.setCommission_changes commission) h stepped
  | read | writeSdt | writeSft | exchangeSft | writeThr | exchangeThr | writeZone | writeSlot | writeEpochLength
  | writeSilenceLimit | writeLineSettings | svtLoad | svtCommit | querySensor | querySurface | queryZone | querySlot
  | queryPort | queryUnit | clearCounters | clearAccessed | clearSlotFlags | clearSurfaceCounts | clearZoneFlags
  | clearAlarm | restart =>
    exact ops.actRequest h stepped

/-- A law kept by the operations is kept by every step; on an empty queue the part idles. -/
theorem State.KeptByOperations.ofStep (h : P s) (stepped : step s = .next t) : P t := by
  unfold step at stepped
  split at stepped
  · obtain rfl := Host.Outcome.next.inj stepped
    exact h
  · next c rest _ =>
    exact ops.ofExec c (ops.outside ((s.setPending_changes rest).mono (by decide)) h) stepped

end

end

end Sys2Proof.Machine
end

section
/-! PROOFS. The fifth law under the descriptor controller, the forward modes and the engine (chapters 1 and 3, section
9.6). -/

namespace Sys2Proof.Machine

/-! ### Descriptors that do not report water -/

theorem Descriptor.not_reportsWater_of_phase {d : Descriptor} (h : d.phase ≠ .live) : ¬ d.ReportsWater :=
  fun water => h water.live

/-- A descriptor that is VACANT or of another kind than WETNESS, and so the pad of no record. -/
def Descriptor.NotPad (d : Descriptor) : Prop := ∀ k, d.config = some k → k.kind ≠ .wetness

theorem Descriptor.NotPad.dry {d : Descriptor} (h : d.NotPad) : ¬ d.ReportsWater := by
  rintro ⟨k, config, kind, -, -⟩
  exact h k config kind

/-- After a rejection a descriptor reports what it reported, if it is LIVE still (R13). -/
theorem Descriptor.rejected_reportsWater {d : Descriptor} (h : d.rejected.ReportsWater) : d.ReportsWater := by
  obtain ⟨k, config, kind, live, water⟩ := h
  refine ⟨k, config, kind, ?_, water⟩
  simp only [Descriptor.rejected] at live
  split at live
  · cases live
  · exact live

/-- The rejection that moves a sensor leaves it SUSPECT (R13). -/
theorem Descriptor.rejected_phase {d : Descriptor} (moves : d.rejectMoves = true) : d.rejected.phase = .suspect := by
  obtain ⟨third, -⟩ : 3 ≤ d.rejects + 1 ∧ d.phase ≠ .suspect := by simpa [Descriptor.rejectMoves] using moves
  simp [Descriptor.rejected, third]

theorem Descriptor.ticked_reportsWater {d : Descriptor} (h : d.ticked.ReportsWater) : d.ReportsWater := by
  unfold Descriptor.ticked at h
  split at h
  · exact h
  · exact h

/-- A current payload that is read gives the reading it was offered (R7, R8). -/
theorem statusForm_reading {st : Byte} {k : SensorKind} {r r' : Raw} (read : statusForm st k r = .reading r') :
    r' = r := by
  unfold statusForm at read
  split_ifs at read
  exact (SampleForm.reading.inj read).symm

/-- A sample of a WETNESS descriptor is read as a wet value (R3, R11). -/
theorem readSample_wetness {c : SensorConfig} {payload : List Byte} {r : Raw} (kind : c.kind = .wetness)
    (read : readSample c payload = .reading r) : ∃ w, r = .wetness w := by
  unfold readSample at read
  rw [kind] at read
  split at read
  any_goals contradiction
  exact ⟨_, statusForm_reading read⟩

/-! ### Storing a descriptor -/

section
variable {s : State}

/-- A stored descriptor reaches the records whose pad it is, and only where it reports water anew. -/
theorem State.ObeysAt.setDesc {i : Fin 64} (h : s.ObeysAt i) {sel : Selector} {d : Descriptor}
    (pad : i ∈ s.padSurfaces sel → d.ReportsWater → (s.desc sel).ReportsWater) : (s.setDesc sel d).ObeysAt i := by
  refine State.Obeys.congr (s := s) h fun c w used named water => ?_
  by_cases e : w = sel
  · subst e
    exact pad ((s.mem_padSurfaces w i).mpr ⟨c, used, named⟩) (by simpa using water)
  · rwa [State.setDesc_desc_ne s d e] at water

section
variable (h : s.PadsObeyed)
include h

theorem State.PadsObeyed.setDesc {sel : Selector} {d : Descriptor}
    (pad : d.ReportsWater → (s.desc sel).ReportsWater) : (s.setDesc sel d).PadsObeyed :=
  (State.padsObeyed_iff _).mpr fun i => (h.obeysAt i).setDesc fun _ => pad

theorem State.PadsObeyed.updDesc {sel : Selector} {f : Descriptor → Descriptor}
    (pad : (f (s.desc sel)).ReportsWater → (s.desc sel).ReportsWater) : (s.updDesc sel f).PadsObeyed := h.setDesc pad

theorem State.PadsObeyed.mapSdt {f : Descriptor → Descriptor} (pad : ∀ d, (f d).ReportsWater → d.ReportsWater) :
    (s.setSdt (s.sdt.map f)).PadsObeyed := by
  refine (State.padsObeyed_iff _).mpr fun i => State.Obeys.congr (s := s) (h.obeysAt i) fun _ w _ _ water => ?_
  have mapped : (s.setSdt (s.sdt.map f)).desc w = f (s.desc w) := Tbl.get_map f s.sdt w.toFin
  exact pad _ (mapped ▸ water)

/-! ### Forwarding -/

theorem State.PadsObeyed.offerEnriched (sel : Selector) (payload : List Byte) (v : RefValue) :
    (s.offerEnriched sel payload v).PadsObeyed := (h.changes (s.offerFq_changes _)).updDesc id

omit h in
/-- A forward decision offers a frame or does nothing (R166). -/
theorem State.forward_cases (s : State) (sel : Selector) (payload : List Byte) (v : RefValue) :
    s.forward sel payload v = s ∨ s.forward sel payload v = s.offerEnriched sel payload v := by
  unfold State.forward
  split
  · exact .inl rfl
  · split
    · exact .inl rfl
    · exact .inl rfl
    · exact .inr rfl
    · unfold State.offerChanged
      dsimp only
      split
      · exact .inr rfl
      · exact .inl rfl

omit h in
/-- So does the forward decision at a rejection (R166). -/
theorem State.forwardReject_cases (s : State) (sel : Selector) (moved : Bool) :
    s.forwardReject sel moved = s ∨ ∃ payload v, s.forwardReject sel moved = s.offerEnriched sel payload v := by
  unfold State.forwardReject
  dsimp only
  split
  · exact .inl rfl
  · split
    · exact .inl rfl
    · exact .inl rfl
    · exact .inr ⟨_, _, rfl⟩
    · split
      · exact .inr ⟨_, _, rfl⟩
      · exact .inl rfl

theorem State.PadsObeyed.forward (sel : Selector) (payload : List Byte) (v : RefValue) :
    (s.forward sel payload v).PadsObeyed := by
  rcases s.forward_cases sel payload v with same | offered
  · rwa [same]
  · exact offered ▸ h.offerEnriched _ _ _

theorem State.PadsObeyed.forwardReject (sel : Selector) (moved : Bool) : (s.forwardReject sel moved).PadsObeyed := by
  rcases s.forwardReject_cases sel moved with same | ⟨_, _, offered⟩
  · rwa [same]
  · exact offered ▸ h.offerEnriched _ _ _

/-! ### The engine -/

theorem State.PadsObeyed.offerJob (j : SampleJob) : (s.offerJob j).PadsObeyed := by
  unfold State.offerJob
  split
  · exact (h.changes (s.setEvalQueue_changes _)).changes (State.count_changes _ _)
  · split
    · exact (h.changes (s.setEvalQueue_changes _)).changes (State.takeIfIdle_changes _)
    · exact (h.changes (s.count_changes _)).updDesc id

theorem State.PadsObeyed.takeJob : s.takeJob.PadsObeyed := h.changes s.takeJob_changes

theorem State.PadsObeyed.discard : s.discard.PadsObeyed := h.changes (s.count_changes _)

theorem State.PadsObeyed.deliverAir (sel : Selector) (temp : Int) (rh : Nat) (clamped saturated : Bool)
    (gen version : BitVec 8) : (s.deliverAir sel temp rh clamped saturated gen version).PadsObeyed := by
  unfold State.deliverAir
  dsimp only
  split
  · exact h.discard
  · exact State.PadsObeyed.forward ((h.updDesc id).changes (State.accumulateAir_changes _ _ _)) _ _ _

theorem State.PadsObeyed.deliverSurface (sel : Selector) (temp : Int) (version : BitVec 8)
    (binding : Option Binding) : (s.deliverSurface sel temp version binding).PadsObeyed := by
  have delivered : (s.updDesc sel Descriptor.surfaceDelivered).PadsObeyed := h.updDesc id
  unfold State.deliverSurface
  dsimp only
  split
  · exact h.discard
  · split
    · exact delivered.forward _ _ _
    · split
      · exact delivered.discard.forward _ _ _
      · exact (delivered.evaluate _ _).forward _ _ _

theorem State.PadsObeyed.completeAir : s.completeAir.PadsObeyed := by
  unfold State.completeAir
  split
  · exact (h.deliverAir _ _ _ _ _ _ _).takeJob
  · exact h
  · exact h
  · exact h

theorem State.PadsObeyed.completeSurface : s.completeSurface.PadsObeyed := by
  unfold State.completeSurface
  split
  · exact (h.deliverSurface _ _ _ _).takeJob
  · exact h
  · exact h
  · exact h

theorem State.PadsObeyed.completeZone : s.completeZone.PadsObeyed := by
  unfold State.completeZone
  split
  · exact State.PadsObeyed.takeJob (h.changes (State.zoneDelivered_changes _ _ _ _))
  · exact h
  · exact h
  · exact h

/-! ### Rejection, staleness and WRITE of a descriptor -/

omit h in
theorem State.raiseSensor_desc (s : State) (sel x : Selector) (left : SensorState) :
    (s.raiseSensor sel left).desc x = s.desc x := (s.raiseSensor_changes sel left).desc (by decide) x

/-- A sensor that has left LIVE sends its event and its notice (R13, R16 to R18). -/
theorem State.PadsObeyed.leaveLive (kind : SensorKind) {sel : Selector} {d : Descriptor} (left : SensorState)
    (lost : d.phase ≠ .live) : (((s.setDesc sel d).raiseSensor sel left).probeNotice kind sel).PadsObeyed := by
  have stored : (s.setDesc sel d).PadsObeyed := h.setDesc fun water => absurd water.live lost
  refine State.PadsObeyed.probeNotice (stored.changes (State.raiseSensor_changes _ _ _)) kind ?_
  simpa [State.raiseSensor_desc] using lost

theorem State.PadsObeyed.rejectSample (sel : Selector) (kind : SensorKind) : (s.rejectSample sel kind).PadsObeyed := by
  unfold State.rejectSample
  dsimp only
  split
  · next moves =>
    have suspect : (s.desc sel).rejected.phase ≠ .live := by simp [Descriptor.rejected_phase moves]
    exact (h.leaveLive kind _ suspect).forwardReject _ _
  · exact State.PadsObeyed.forwardReject (h.setDesc Descriptor.rejected_reportsWater) _ _

theorem State.PadsObeyed.formatReject (sel : Selector) (kind : SensorKind) : (s.formatReject sel kind).PadsObeyed :=
  State.PadsObeyed.rejectSample (h.updDesc id) sel kind

theorem State.PadsObeyed.plausibilityReject (sel : Selector) (kind : SensorKind) :
    (s.plausibilityReject sel kind).PadsObeyed := State.PadsObeyed.rejectSample (h.updDesc id) sel kind

theorem State.PadsObeyed.goStale (sel : Selector) : (s.goStale sel).PadsObeyed := by
  unfold State.goStale
  dsimp only
  split
  · exact h
  · exact h.leaveLive _ _ (by simp)

theorem State.PadsObeyed.storeDesc (sel : Selector) (c : Option SensorConfig) : (s.storeDesc sel c).PadsObeyed := by
  have awaiting : ((s.desc sel).written c).phase ≠ .live := by simp [Descriptor.written]
  have stored : ((s.setDesc sel ((s.desc sel).written c)).setEvalQueue
      (s.evalQueue.filter fun q => decide (q.sel ≠ sel))).PadsObeyed :=
    State.PadsObeyed.changes (h.setDesc fun water => absurd water.live awaiting) (State.setEvalQueue_changes _ _)
  unfold State.storeDesc
  dsimp only
  split
  · exact stored
  · refine stored.probeNotice _ ?_
    rw [(State.setEvalQueue_changes _ _).desc (by decide), State.setDesc_desc]
    exact awaiting

/-! ### Acceptance -/

omit h in
theorem State.raiseRecovery_changes (s : State) (sel : Selector) (before : Descriptor) :
    s.Changes (s.raiseRecovery sel before) reportFields := by
  unfold State.raiseRecovery
  split
  · exact s.raiseSensor_changes _ _
  · exact .refl s _

/-- What acceptance stores for a descriptor that is no pad (R14). -/
theorem State.PadsObeyed.recovered {sel : Selector} (notPad : (s.desc sel).NotPad) {d : Descriptor}
    (config : d.config = (s.desc sel).config) (before : Descriptor) :
    ((s.setDesc sel d).raiseRecovery sel before).PadsObeyed := by
  have still : d.NotPad := fun k present => notPad k (config ▸ present)
  exact State.PadsObeyed.changes (h.setDesc fun water => absurd water still.dry) (State.raiseRecovery_changes _ _ _)

theorem State.PadsObeyed.acceptAir {sel : Selector} (notPad : (s.desc sel).NotPad) (temp : Int) (rh : Nat)
    (clamped saturated : Bool) : (s.acceptAir sel temp rh clamped saturated).PadsObeyed := by
  unfold State.acceptAir
  exact (h.recovered notPad (by rfl) _).offerJob _

theorem State.PadsObeyed.acceptSurface {sel : Selector} (notPad : (s.desc sel).NotPad) (temp : Int)
    (clamped : Bool) : (s.acceptSurface sel temp clamped).PadsObeyed := by
  unfold State.acceptSurface
  exact (h.recovered notPad (by rfl) _).offerJob _

/-- WATER makes the records of the pad WET with CONFIRMED, whether or not the law stood at them before; DRY takes the
pad out of force (R90, R91). -/
theorem State.PadsObeyed.acceptWetness (sel : Selector) (w : Wet) : (s.acceptWetness sel w).PadsObeyed := by
  have touched := State.raiseRecovery_changes (s.setDesc sel ((s.desc sel).wetnessAccepted w)) sel (s.desc sel)
  refine State.PadsObeyed.forward ?_ _ _ _
  cases w with
  | water =>
    refine (State.padsObeyed_iff _).mpr fun i => State.foldl_wetted_obeysAt _ _ fun out => ?_
    have apart : i ∉ s.padSurfaces sel := by
      rwa [State.mem_padSurfaces, touched.surface (by decide), ← State.mem_padSurfaces] at out
    exact State.ObeysAt.changes ((h.obeysAt i).setDesc fun named => absurd named apart) touched
  | dry =>
    have dry : ¬ ((s.desc sel).wetnessAccepted .dry).ReportsWater := by
      simp [Descriptor.ReportsWater, Descriptor.wetnessAccepted]
    refine (State.PadsObeyed.changes (h.setDesc fun water => absurd water dry) touched).foldl_unconfirmed ?_
      fun _ => id
    rwa [touched.desc (by decide), State.setDesc_desc]

/-- A reading of the descriptor's kind is accepted or rejected (R9 to R12). -/
theorem State.PadsObeyed.readingArrives {sel : Selector} {c : SensorConfig} {r : Raw}
    (config : (s.desc sel).config = some c) (kind : c.kind = .wetness → ∃ w, r = .wetness w) :
    (s.readingArrives sel c r).PadsObeyed := by
  have notPad (other : ∀ w, r ≠ .wetness w) : (s.desc sel).NotPad := by
    intro k present pad
    obtain rfl : c = k := Option.some.inj (config.symm.trans present)
    obtain ⟨w, wet⟩ := kind pad
    exact other w wet
  cases r with
  | air temp rh =>
    simp only [State.readingArrives]
    split
    · exact h.acceptAir (notPad nofun) _ _ _ _
    · exact h.plausibilityReject _ _
  | surface temp =>
    simp only [State.readingArrives]
    split
    · exact h.acceptSurface (notPad nofun) _ _
    · exact h.plausibilityReject _ _
  | wetness w => exact h.acceptWetness sel w

omit h in
theorem State.rawCopy_changes (s : State) (c : SensorConfig) (f : Frame) : s.Changes (s.rawCopy c f) [.turn] := by
  unfold State.rawCopy
  split
  · exact s.offerFq_changes f
  · exact .refl s _

theorem State.PadsObeyed.sampleArrives (sel : Selector) (f : Frame) : (s.sampleArrives sel f).PadsObeyed := by
  unfold State.sampleArrives
  split
  · exact h.changes (s.count_changes _)
  · next c config =>
    have copied : (s.rawCopy c f).PadsObeyed := h.changes (s.rawCopy_changes c f)
    dsimp only
    split
    · exact copied.formatReject _ _
    · exact copied.plausibilityReject _ _
    · next read =>
      refine copied.readingArrives ?_ fun kind => readSample_wetness kind read
      rwa [(s.rawCopy_changes c f).desc (by decide)]

theorem State.PadsObeyed.tick : s.tick.PadsObeyed := by
  have aged : (s.setSdt (s.sdt.map Descriptor.ticked)).PadsObeyed := h.mapSdt fun _ => Descriptor.ticked_reportsWater
  exact ((aged.changes (State.setEpochCount_changes _ _)).changes (State.setTurn_changes _ _)).changes
    (State.setDue_changes _ _)

end

end

end Sys2Proof.Machine
end

section
/-! PROOFS. The fifth law under management, the router, reset and RESTART, and so under every step (chapters 8, 10 and
11, R92). -/

namespace Sys2Proof.Machine

section
variable {s : State} (h : s.PadsObeyed)
include h

/-! ### Management -/

theorem State.PadsObeyed.writeAnswer (p : Port) (level : Nat) (a : Args) :
    (s.writeAnswer p level a).1.PadsObeyed := by
  rcases s.writeAnswer_cases p level a with same | ⟨table, ok⟩
  · rwa [same]
  · rcases State.writeEntry_cases ok with ⟨sel, c, e⟩ | ⟨i, c, e⟩ | apart
    · exact e ▸ h.storeDesc sel c
    · exact e ▸ h.storeSurface i (s.writtenSurface_obeys i c)
    · exact h.changes apart

theorem State.PadsObeyed.exchangeAnswer (level : Nat) (a : Args) : (s.exchangeAnswer level a).1.PadsObeyed := by
  rcases s.exchangeAnswer_cases level a with same | ⟨table, v, ok, e⟩
  · rwa [same]
  · rw [← e]
    rcases State.exchangeEntry_cases ok with ⟨i, c, e⟩ | apart
    · exact e ▸ h.storeSurface i (h.exchangedSurface i c)
    · exact h.changes apart

theorem State.PadsObeyed.zeroCounters : s.zeroCounters.PadsObeyed := by
  have zeroed : (s.setSdt (s.sdt.map fun d => { d with formatRejects := 0, plausibilityRejects := 0 })).PadsObeyed :=
    h.mapSdt fun _ => id
  exact (((zeroed.changes (State.setCounters_changes _ _)).changes (State.setPorts_changes _ _)).changes
    (State.setSlots_changes _ _)).changes (State.setTurn_changes _ _)

theorem State.PadsObeyed.clear (target : Target) : (s.clear target).PadsObeyed := by
  cases target with
  | counters => exact h.zeroCounters
  | accessed => exact h.mapSdt fun _ => id
  | slotFlags => exact h.changes (s.setSlots_changes _)
  | surfaceCounts => exact h.clearSurfaceCounts
  | zoneFlags => exact h.changes (s.setZones_changes _)
  | alarm => exact h.changes s.clearAlarm_changes

theorem State.PadsObeyed.clearAnswer (level : Nat) (a : Args) : (s.clearAnswer level a).1.PadsObeyed := by
  rcases s.clearAnswer_cases level a with same | ⟨target, e⟩
  · rwa [same]
  · exact e ▸ h.clear target

omit h in
/-- Serving an answer keeps the law where the answered change kept it. -/
theorem State.PadsObeyed.serve (s : State) (q : Request) {r : State × Answer} (h : r.1.PadsObeyed) :
    (s.serve q r).PadsObeyed := h.changes (r.1.setMgmt_changes _)

theorem State.PadsObeyed.beginCommit (q : Request) (a : Args) : (s.beginCommit q a).PadsObeyed := by
  unfold State.beginCommit
  split
  · exact .serve s q h
  · exact h.changes (s.setMgmt_changes _)

theorem State.PadsObeyed.beginRestart (q : Request) (a : Args) : (s.beginRestart q a).PadsObeyed := by
  unfold State.beginRestart
  split
  · exact .serve s q h
  · exact (h.changes (s.setMgmt_changes _)).changes (State.handReply_changes _ _ _ _)

theorem State.PadsObeyed.take (q : Request) : (s.take q).PadsObeyed := by
  unfold State.take
  split
  · exact .serve s q h
  · split
    · exact .serve s q h
    · exact .serve s q h
    · exact .serve s q (h.writeAnswer _ _ _)
    · exact .serve s q (h.exchangeAnswer _ _)
    · exact .serve s q (h.changes (s.loadAnswer_changes _ _))
    · exact h.beginCommit q _
    · exact .serve s q h
    · exact .serve s q (h.clearAnswer _ _)
    · exact h.beginRestart q _

theorem State.PadsObeyed.request (p : Port) (f : Frame) : (s.request p f).PadsObeyed := by
  unfold State.request
  split
  · exact h.take _
  · exact h.changes (s.handReply_changes _ _ _)

/-! ### The router -/

theorem State.PadsObeyed.countRouter (p : Port) (f : RouterCounters → RouterCounters) :
    (s.countRouter p f).PadsObeyed := h.changes (s.countRouter_changes p f)

theorem State.PadsObeyed.routeSample (p : FloorPort) (f : Frame) : (s.routeSample p f).PadsObeyed := by
  unfold State.routeSample
  split
  · exact h.countRouter _ _
  · exact h.sampleArrives _ _

theorem State.PadsObeyed.routeRequest (p : Port) (f : Frame) : (s.routeRequest p f).PadsObeyed := by
  unfold State.routeRequest
  split
  · split
    · exact h.countRouter _ _
    · exact h.changes (s.updTurn_changes _)
  · exact State.PadsObeyed.request (h.changes (s.updPort_changes _ _)) p f

theorem State.PadsObeyed.routeFloor (p : FloorPort) (f : Frame) : (s.routeFloor p f).PadsObeyed := by
  unfold State.routeFloor
  dsimp only
  split
  · exact h.routeSample p _
  · exact h.changes (s.routeNodeStatus_changes p _)
  · exact h.routeRequest _ _
  · exact h.countRouter _ _
  · exact h.countRouter _ _
  all_goals exact h

theorem State.PadsObeyed.routeSupervisor (f : Frame) : (s.routeSupervisor f).PadsObeyed := by
  unfold State.routeSupervisor
  split
  · exact h
  · exact h.changes (s.takeGrant_changes f)
  · exact h.changes (s.takePoll_changes f)
  · exact h.changes (s.routeNodeCmd_changes f)
  · exact h.routeRequest _ _
  · exact h.countRouter _ _
  · exact h.countRouter _ _
  all_goals exact h

theorem State.PadsObeyed.routeFrame (p : Port) (f : Frame) : (s.routeFrame p f).PadsObeyed := by
  cases p with
  | floor q => exact h.routeFloor q f
  | u => exact h.routeSupervisor f

/-- RESET leaves descriptors and surface records (R191). -/
theorem State.PadsObeyed.enterReset : s.enterReset.PadsObeyed :=
  (State.padsObeyed_iff _).mpr fun i => State.Obeys.congr (s := s) (h.obeysAt i) fun _ _ _ _ => id

end

/-! ### Power-on and RESTART -/

/-- With no record in use the law asks nothing (R99). -/
theorem State.powerOnValues_padsObeyed (pins : Pins) (unitNo : BitVec 4) (pending : List Instr) :
    (State.powerOnValues pins unitNo pending).PadsObeyed := by
  refine (State.padsObeyed_iff _).mpr fun i => .unused ?_
  have record : (State.powerOnValues pins unitNo pending).surface i = .powerOn := Tbl.get_fill Surface.powerOn i
  rw [record]
  rfl

theorem State.powerUp_padsObeyed (s : State) (straps : BitVec 3) : (s.powerUp straps).PadsObeyed :=
  (((State.powerOnValues_padsObeyed _ _ _).changes (State.evalCondense_changes _)).changes
    (State.raise_changes _ _)).changes (State.raiseDark_changes _)

theorem State.loseSupply_padsObeyed (s : State) : s.loseSupply.PadsObeyed :=
  (State.powerOnValues_padsObeyed s.pins s.unitNo s.pending).changes (State.setPower_changes _ .unpowered)

/-- No record is confirmed after a RESTART, and no pad is LIVE (R25, R100). -/
theorem State.restartValues_padsObeyed (s : State) : s.restartValues.PadsObeyed := by
  have record (i : Fin 64) : s.restartValues.surface i = (s.surface i).restarted := Tbl.get_map _ _ i
  have desc (w : Selector) : s.restartValues.desc w = (s.desc w).restarted := Tbl.get_map _ _ w.toFin
  refine (State.padsObeyed_iff _).mpr fun i => .unconfirmed ?_ fun c _ => ?_
  · rw [record]
    rfl
  · rw [← Bool.not_eq_true, State.padInForce_iff]
    rintro ⟨w, -, water⟩
    rw [desc] at water
    cases water.live

theorem State.restartEffect_padsObeyed (s : State) : s.restartEffect.PadsObeyed :=
  (((s.restartValues_padsObeyed.changes (State.reencodeAll_changes _)).changes
    (State.evalCondense_changes _)).changes (State.raise_changes _ _)).changes (State.raiseDark_changes _)

/-! ### Every step -/

theorem padsObeyed_kept : State.KeptByOperations State.PadsObeyed where
  outside k h := h.changes k
  raise s e h := h.changes (s.raise_changes e)
  enterReset _ h := h.enterReset
  powerUp s straps _ := s.powerUp_padsObeyed straps
  loseSupply s _ := s.loseSupply_padsObeyed
  restartEffect s _ := s.restartEffect_padsObeyed
  tick _ h := h.tick
  goStale _ sel h := h.goStale sel
  epochExpires s h := h.changes s.epochExpires_changes
  enterSilent s h := h.changes s.enterSilent_changes
  routeFrame _ p f h := h.routeFrame p f
  uSent s h := h.changes s.uSent_changes
  uCollides s h := h.changes s.uCollides_changes
  completeAir _ h := h.completeAir
  completeSurface _ h := h.completeSurface
  completeZone _ h := h.completeZone
  commitEnds s h := h.changes s.commitEnds_changes
  serviceEnds s h := h.changes s.serviceEnds_changes

/-- Settles O58: read record by record the law is that CONFIRMED is held in WET alone and wherever the pad is in force,
and so read it is kept by each operation of a step. -/
theorem stepsKeepThePadsObeyed : Obligations.StepsKeepThePadsObeyed := by
  unfold Obligations.StepsKeepThePadsObeyed
  exact fun s t obeyed stepped => padsObeyed_kept.ofStep obeyed stepped

end Sys2Proof.Machine
end

section
/-! PROOFS. Report slots: what acceptance, an unsent entry, room and the three outcomes of an event are (R103 to R106,
R108). -/

namespace Sys2Proof.Machine

/-! ### Subjects -/

section
variable {a b e : Event}

theorem Event.sameSubject_iff : a.sameSubject b = true ↔ a.SameSubject b := by
  simp [Event.sameSubject, Event.SameSubject]

theorem Event.SameSubject.refl (a : Event) : a.SameSubject a := ⟨rfl, rfl⟩

theorem Event.SameSubject.symm (h : a.SameSubject b) : b.SameSubject a := ⟨h.1.symm, h.2.symm⟩

theorem Event.SameSubject.trans (h : a.SameSubject b) (k : b.SameSubject e) : a.SameSubject e :=
  ⟨h.1.trans k.1, h.2.trans k.2⟩

/-- The entry that stands where `x` stood is about the subject of `x` (R104). -/
theorem Event.sameSubject_superseding (e x : Event) : (if e.sameSubject x then e else x).SameSubject x := by
  split
  · next same => exact Event.sameSubject_iff.mp same
  · exact .refl x

/-- The events whose loss sets the latch (R106). -/
theorem Event.alarming_iff (e : Event) :
    e.alarming = true ↔ ∃ i left entered m conf fb, e = .grade i left entered m conf fb ∧
      (entered = .alert ∨ entered = .wet) := by
  cases e <;> simp [Event.alarming]

end

/-! ### Tests of a slot -/

section
variable (r : Slot) (e : Event)

theorem Slot.accepts_iff : r.accepts e = true ↔ r.state ≠ .idle ∧
    r.binding.kinds.getLsbD e.kindBit = true ∧ e.id &&& r.binding.idMask = r.binding.idMatch := by
  simp [Slot.accepts, and_assoc]

theorem Slot.holds_iff : r.holds e = true ↔ r.Unsent ∧ ∃ x ∈ r.entries, e.SameSubject x := by
  simp [Slot.holds, Slot.unsent, Slot.Unsent, Event.sameSubject_iff]

theorem Slot.canTake_iff : r.canTake = true ↔
    r.state = .empty ∨ (r.state = .collecting ∧ r.entries.length < 7) := by
  simp [Slot.canTake, Config.batchSize]

end

/-! ### Placement -/

/-- A slot that can take an event, after it took it: a new entry last, PENDING when the mode or the seventh entry makes
it so (R105). -/
theorem Slot.place_eq {r : Slot} (room : r.canTake = true) (e : Event) :
    r.place e =
      { r with
        entries := if r.state = .empty then [e] else r.entries ++ [e]
        state :=
          if r.state = .empty then (if r.binding.mode = .single then .pending else .collecting)
          else if r.entries.length = 6 then .pending else .collecting } := by
  unfold Slot.place
  split
  · cases mode : r.binding.mode <;> simp
  · next occupied =>
    obtain ⟨-, few⟩ := ((Slot.canTake_iff r).mp room).resolve_left occupied
    by_cases last : r.entries.length = 6
    · simp [Config.batchSize, last]
    · have short : r.entries.length + 1 < 7 := by omega
      simp [Config.batchSize, last, short]

section
variable {s : State} {e : Event} {i : Fin 16}

/-- The lowest slot that accepts the event and holds its subject unsent supersedes (R104). -/
theorem State.raise_of_holder (accepts : (s.slot i).accepts e = true) (holds : (s.slot i).holds e = true)
    (lowest : ∀ j, j < i → ((s.slot j).accepts e && (s.slot j).holds e) = false) :
    s.raise e = s.setSlot i ((s.slot i).supersede e) := by
  have found : s.supersedeSlot e = some i :=
    Tbl.indices_head_some s.slots (fun r => r.accepts e && r.holds e) i (Bool.and_eq_true_iff.mpr ⟨accepts, holds⟩)
      lowest
  simp [State.raise, found]

/-- Without a holder the lowest slot that accepts the event and has room takes it (R105). -/
theorem State.raise_of_room (noHolder : ∀ j, ((s.slot j).accepts e && (s.slot j).holds e) = false)
    (accepts : (s.slot i).accepts e = true) (room : (s.slot i).canTake = true)
    (lowest : ∀ j, j < i → ((s.slot j).accepts e && (s.slot j).canTake) = false) :
    s.raise e = s.setSlot i ((s.slot i).place e) := by
  have none : s.supersedeSlot e = none := Tbl.indices_head_none _ _ noHolder
  have found : s.newSlot e = some i :=
    Tbl.indices_head_some s.slots (fun r => r.accepts e && r.canTake) i (Bool.and_eq_true_iff.mpr ⟨accepts, room⟩)
      lowest
  simp [State.raise, none, found]

/-- With neither the event is lost (R106). -/
theorem State.raise_of_full (noHolder : ∀ j, ((s.slot j).accepts e && (s.slot j).holds e) = false)
    (noRoom : ∀ j, ((s.slot j).accepts e && (s.slot j).canTake) = false) : s.raise e = s.loseEvent e := by
  have none : s.supersedeSlot e = none := Tbl.indices_head_none _ _ noHolder
  have full : s.newSlot e = .none := Tbl.indices_head_none _ _ noRoom
  simp [State.raise, none, full]

end

/-! ### The loss -/

section
variable (s : State) (e : Event)

theorem State.loseEvent_slots : (s.loseEvent e).slots = s.slots := by
  unfold State.loseEvent
  dsimp only
  split <;> rfl

theorem State.loseEvent_counters :
    (s.loseEvent e).counters = { s.counters with reportLoss := satInc s.counters.reportLoss } := by
  unfold State.loseEvent
  dsimp only
  split <;> rfl

theorem State.loseEvent_alarmLoss : (s.loseEvent e).alarmLoss = (s.alarmLoss || e.alarming) := by
  unfold State.loseEvent
  dsimp only
  split
  · next alarming => simp [alarming, State.evalCondense]
  · next quiet => simp [quiet, State.count]

end

/-- Settles O35: the statement's tests are the model's, and the first slot that passes decides between the three
outcomes. -/
theorem eventsSupersedeOrPlaceOrAreLost : Obligations.EventsSupersedeOrPlaceOrAreLost := by
  unfold Obligations.EventsSupersedeOrPlaceOrAreLost
  intro s e
  simp only [← Slot.accepts_iff, ← Slot.holds_iff, ← Slot.canTake_iff, ← Bool.and_eq_true, Bool.not_eq_true]
  refine ⟨fun i accepts holds lowest => ?_, fun noHolder => ⟨fun i accepts room lowest => ?_, fun noRoom => ?_⟩⟩
  · refine ⟨_, State.raise_of_holder accepts holds lowest, List.length_map _, fun k => ?_⟩
    simp only [List.getElem?_map, Event.sameSubject_iff, Event.SameSubject]
  · rw [State.raise_of_room noHolder accepts room lowest, Slot.place_eq room]
  · refine ⟨?_, ?_, ?_, s.raise_changes e⟩
    all_goals rw [State.raise_of_full noHolder noRoom]
    · exact s.loseEvent_slots e
    · exact s.loseEvent_counters e
    · rw [State.loseEvent_alarmLoss, Bool.or_eq_true, Event.alarming_iff]

end Sys2Proof.Machine
end

section
/-! PROOFS. The third law slot by slot: what a slot keeps within itself, that no two slots hold one subject unsent, and
the operations of the report block that keep both (R101 to R118). -/

namespace Sys2Proof.Machine

/-! ### The law read slot by slot -/

/-- What the third law says of one slot: no two entries about a subject, none while IDLE or EMPTY, none that the
binding does not accept, never more than 7 (R103 to R105). -/
structure Slot.Sound (r : Slot) : Prop where
  within : r.entries.Pairwise fun a b => ¬ a.SameSubject b
  none : r.state = .idle ∨ r.state = .empty → r.entries = []
  accepted : ∀ a ∈ r.entries, r.binding.kinds.getLsbD a.kindBit = true ∧ a.id &&& r.binding.idMask = r.binding.idMatch
  few : r.entries.length ≤ 7

/-- What it says across slots: a subject is held unsent by one slot at most (R107). -/
def State.OneHolder (s : State) : Prop :=
  ∀ (e : Event) (i j : Fin 16), (s.slot i).holds e = true → (s.slot j).holds e = true → i = j

theorem State.subjectsUnique_iff (s : State) : s.SubjectsUnique ↔ (∀ i, (s.slot i).Sound) ∧ s.OneHolder := by
  constructor
  · intro h
    refine ⟨fun i => ⟨h.within i, h.none i, h.accepted i, h.few i⟩, fun e i j hi hj => ?_⟩
    obtain ⟨unsentI, a, memI, sameA⟩ := (Slot.holds_iff _ e).mp hi
    obtain ⟨unsentJ, b, memJ, sameB⟩ := (Slot.holds_iff _ e).mp hj
    by_contra apart
    exact h.across i j apart unsentI unsentJ a memI b memJ (sameA.symm.trans sameB)
  · rintro ⟨sound, oneHolder⟩
    refine ⟨fun i j apart unsentI unsentJ a memI b memJ same => apart (oneHolder a i j ?_ ?_),
      fun i => (sound i).within, fun i => (sound i).none, fun i => (sound i).accepted, fun i => (sound i).few⟩
    · exact (Slot.holds_iff _ a).mpr ⟨unsentI, a, memI, .refl a⟩
    · exact (Slot.holds_iff _ a).mpr ⟨unsentJ, b, memJ, same⟩

/-! ### Sound slots -/

theorem Slot.holds_congr {a b : Event} (same : a.SameSubject b) (r : Slot) : r.holds a = r.holds b := by
  rw [Bool.eq_iff_iff, Slot.holds_iff, Slot.holds_iff]
  exact and_congr_right fun _ => exists_congr fun x => and_congr_right fun _ =>
    ⟨fun k => same.symm.trans k, fun k => same.trans k⟩

/-- A slot without entries is sound, whatever its state and binding. -/
theorem Slot.Sound.of_nil {r : Slot} (nil : r.entries = []) : r.Sound :=
  ⟨by simp [nil], fun _ => nil, by simp [nil], by simp [nil]⟩

/-- A slot without entries holds nothing. -/
theorem Slot.holds_of_nil {r : Slot} (nil : r.entries = []) (e : Event) : r.holds e = false := by
  simp [Slot.holds, nil]

section
variable {r : Slot} (h : r.Sound)
include h

/-- Fewer entries under the same binding. -/
theorem Slot.Sound.sublist {r' : Slot} (fewer : r'.entries.Sublist r.entries) (binding : r'.binding = r.binding)
    (none : r'.state = .idle ∨ r'.state = .empty → r'.entries = []) : r'.Sound where
  within := h.within.sublist fewer
  none := none
  accepted := binding ▸ fun a mem => h.accepted a (fewer.subset mem)
  few := fewer.length_le.trans h.few

/-- A slot that holds an event's subject unsent accepts the event, for the binding sees kind and id alone (R103). -/
theorem Slot.Sound.accepts_of_holds {e : Event} (holds : r.holds e = true) : r.accepts e = true := by
  obtain ⟨unsent, x, mem, kind, id⟩ := (Slot.holds_iff r e).mp holds
  have accepted := h.accepted x mem
  rw [← kind, ← id] at accepted
  refine (Slot.accepts_iff r e).mpr ⟨fun idle => ?_, accepted⟩
  simp [Slot.Unsent, idle] at unsent

/-! ### An event superseded or placed -/

theorem Slot.Sound.supersede (e : Event) : (r.supersede e).Sound where
  within := by
    refine List.pairwise_map.mpr (h.within.imp fun {a b} apart same => apart ?_)
    exact ((Event.sameSubject_superseding e a).symm.trans same).trans (Event.sameSubject_superseding e b)
  none := fun unbound => List.map_eq_nil_iff.mpr (h.none unbound)
  accepted := by
    intro a mem
    obtain ⟨x, memX, rfl⟩ := List.mem_map.mp mem
    obtain ⟨kind, id⟩ := Event.sameSubject_superseding e x
    rw [kind, id]
    exact h.accepted x memX
  few := by simpa [Slot.supersede] using h.few

omit h in
/-- Superseding leaves the subjects a slot holds (R104). -/
theorem Slot.supersede_holds (r : Slot) (e a : Event) : (r.supersede e).holds a = r.holds a := by
  have unsent : (r.supersede e).Unsent ↔ r.Unsent := Iff.rfl
  have same (x : Event) : a.SameSubject (if e.sameSubject x then e else x) ↔ a.SameSubject x :=
    ⟨fun k => k.trans (Event.sameSubject_superseding e x), fun k => k.trans (Event.sameSubject_superseding e x).symm⟩
  have entries : (r.supersede e).entries = r.entries.map fun x => if e.sameSubject x then e else x := rfl
  rw [Bool.eq_iff_iff, Slot.holds_iff, Slot.holds_iff, unsent, entries]
  simp only [List.mem_map, exists_exists_and_eq_and, same]

section
variable {e : Event} (room : r.canTake = true)
include room

/-- The entries after a placement: a slot that was EMPTY had none (R105). -/
theorem Slot.Sound.place_entries : (r.place e).entries = r.entries ++ [e] := by
  rw [Slot.place_eq room]
  dsimp only
  split
  · next empty => simp [h.none (.inr empty)]
  · rfl

omit h in
theorem Slot.place_unsent : (r.place e).Unsent := by
  rw [Slot.place_eq room]
  unfold Slot.Unsent
  dsimp only
  split_ifs <;> simp

theorem Slot.Sound.length_lt_of_canTake : r.entries.length < 7 := by
  rcases (Slot.canTake_iff r).mp room with empty | ⟨-, few⟩
  · simp [h.none (.inr empty)]
  · exact few

/-- A slot with room holds its entries unsent, or has none. -/
theorem Slot.Sound.holds_of_canTake {a x : Event} (mem : x ∈ r.entries) (same : a.SameSubject x) :
    r.holds a = true := by
  rcases (Slot.canTake_iff r).mp room with empty | ⟨collecting, -⟩
  · simp [h.none (.inr empty)] at mem
  · exact (Slot.holds_iff r a).mpr ⟨.inl collecting, x, mem, same⟩

/-- A slot takes an accepted event whose subject it does not hold (R103, R105). -/
theorem Slot.Sound.place (accepts : r.accepts e = true) (new : r.holds e = false) : (r.place e).Sound where
  within := by
    rw [h.place_entries room]
    refine List.pairwise_append.mpr ⟨h.within, List.pairwise_singleton _ e, fun x mem b memB same => ?_⟩
    obtain rfl := List.mem_singleton.mp memB
    simp [h.holds_of_canTake room mem same.symm] at new
  none := fun unbound => by
    rcases Slot.place_unsent (e := e) room with unsent | unsent <;> simp [unsent] at unbound
  accepted := by
    have binding : (r.place e).binding = r.binding := by rw [Slot.place_eq room]
    obtain ⟨-, own⟩ := (Slot.accepts_iff r e).mp accepts
    rw [h.place_entries room, binding]
    intro a mem
    rcases List.mem_append.mp mem with old | last
    · exact h.accepted a old
    · rwa [List.mem_singleton.mp last]
  few := by
    have few := h.length_lt_of_canTake room
    simpa [h.place_entries room] using few

theorem Slot.Sound.place_holds {a : Event} (holds : (r.place e).holds a = true) :
    r.holds a = true ∨ a.SameSubject e := by
  obtain ⟨-, x, mem, same⟩ := (Slot.holds_iff _ a).mp holds
  rw [h.place_entries room] at mem
  rcases List.mem_append.mp mem with old | last
  · exact .inl (h.holds_of_canTake room old same)
  · exact .inr (List.mem_singleton.mp last ▸ same)

end

/-! ### A frame taken, sent or lost -/

/-- What a slot keeps after a collision or a withdrawal (R114). -/
theorem Slot.Sound.afterRetry {kept : List Event} (fewer : kept.Sublist r.entries) : (r.afterRetry kept).Sound := by
  unfold Slot.afterRetry
  split
  · exact .of_nil rfl
  · exact h.sublist fewer rfl (by simp)

omit h in
theorem Slot.afterRetry_entries (r : Slot) (kept : List Event) : (r.afterRetry kept).entries = kept := by
  unfold Slot.afterRetry
  split
  · next nil => exact nil.symm
  · rfl

end

/-- A slot is bound anew only while it is IDLE or EMPTY, and so without entries (R109). -/
theorem Slot.rebound_entries (r : Slot) (b : SlotBinding) : (r.rebound b).entries = r.entries := by
  unfold Slot.rebound
  split <;> rfl

/-! ### The law kept by the report block -/

section
variable {s t : State} (h : s.SubjectsUnique)
include h

theorem State.SubjectsUnique.sound (i : Fin 16) : (s.slot i).Sound := ((State.subjectsUnique_iff s).mp h).1 i

theorem State.SubjectsUnique.oneHolder : s.OneHolder := ((State.subjectsUnique_iff s).mp h).2

/-- Where one slot holds a subject, every other does not. -/
theorem State.SubjectsUnique.not_holds {e : Event} {i j : Fin 16} (holds : (s.slot i).holds e = true) (apart : j ≠ i) :
    (s.slot j).holds e = false :=
  Bool.eq_false_iff.mpr fun other => apart (h.oneHolder e j i other holds)

/-- Slots that are sound and hold no subject they did not hold. -/
theorem State.SubjectsUnique.fewer (sound : ∀ i, (t.slot i).Sound)
    (fewer : ∀ i e, (t.slot i).holds e = true → (s.slot i).holds e = true) : t.SubjectsUnique :=
  (State.subjectsUnique_iff t).mpr
    ⟨sound, fun e i j hi hj => h.oneHolder e i j (fewer i e hi) (fewer j e hj)⟩

/-- What leaves the slots keeps the law. -/
theorem State.SubjectsUnique.changes {fs : List Field} (k : s.Changes t fs) (slots : .slots ∉ fs) :
    t.SubjectsUnique := by
  have same (i : Fin 16) : t.slot i = s.slot i := congrArg (fun v : Tbl 16 Slot => v.get i) (k .slots slots)
  exact h.fewer (fun i => same i ▸ h.sound i) fun i e => same i ▸ id

omit h in
/-- A fold keeps the law where each of its steps does. -/
theorem State.SubjectsUnique.foldl {α : Type} {f : State → α → State}
    (each : ∀ (u : State) (a : α), u.SubjectsUnique → (f u a).SubjectsUnique) (h : s.SubjectsUnique) (l : List α) :
    (l.foldl f s).SubjectsUnique := List.foldlRecOn l f h fun u hu a _ => each u a hu

/-- A slot replaced by a sound one that holds no subject another slot holds. -/
theorem State.SubjectsUnique.setSlot {i : Fin 16} {r : Slot} (sound : r.Sound)
    (apart : ∀ e, r.holds e = true → ∀ j, j ≠ i → (s.slot j).holds e = false) : (s.setSlot i r).SubjectsUnique := by
  refine (State.subjectsUnique_iff _).mpr ⟨fun j => ?_, fun e j k hj hk => ?_⟩
  · by_cases own : j = i
    · subst own
      simpa using sound
    · rw [State.setSlot_slot_ne s r own]
      exact h.sound j
  · by_cases ownJ : j = i <;> by_cases ownK : k = i
    · exact ownJ.trans ownK.symm
    · subst ownJ
      rw [State.setSlot_slot] at hj
      rw [State.setSlot_slot_ne s r ownK, apart e hj k ownK] at hk
      cases hk
    · subst ownK
      rw [State.setSlot_slot] at hk
      rw [State.setSlot_slot_ne s r ownJ, apart e hk j ownJ] at hj
      cases hj
    · rw [State.setSlot_slot_ne s r ownJ] at hj
      rw [State.setSlot_slot_ne s r ownK] at hk
      exact h.oneHolder e j k hj hk

/-- A slot replaced by one without entries. -/
theorem State.SubjectsUnique.clearSlot (i : Fin 16) {r : Slot} (nil : r.entries = []) :
    (s.setSlot i r).SubjectsUnique :=
  h.setSlot (.of_nil nil) fun e holds => by simp [Slot.holds_of_nil nil] at holds

/-- Raising an event keeps the law: the holder of its subject accepts it and so supersedes; where none does, none holds
the subject, and the slot that takes it becomes its one holder (R104, R105, R107). -/
theorem State.SubjectsUnique.raise (e : Event) : (s.raise e).SubjectsUnique := by
  rcases s.raise_cases e with ⟨i, -, -, supersedes⟩ | ⟨noHolder, ⟨i, accepts, room, places⟩ | ⟨-, loses⟩⟩
  · rw [supersedes]
    refine h.setSlot ((h.sound i).supersede e) fun a holds j apart => h.not_holds ?_ apart
    rwa [Slot.supersede_holds] at holds
  · have new (j : Fin 16) : (s.slot j).holds e = false := Bool.eq_false_iff.mpr fun holds => by
      simpa [(h.sound j).accepts_of_holds holds, holds] using noHolder j
    rw [places]
    refine h.setSlot ((h.sound i).place room accepts (new i)) fun a holds j apart => ?_
    rcases (h.sound i).place_holds room holds with old | same
    · exact h.not_holds old apart
    · rw [Slot.holds_congr same]
      exact new j
  · have same (j : Fin 16) : (s.loseEvent e).slot j = s.slot j := by simp [State.slot, State.loseEvent_slots]
    rw [loses]
    exact h.fewer (fun j => same j ▸ h.sound j) fun j a => same j ▸ id

/-- A slot's frame is taken: its entries are no longer unsent (R111). -/
theorem State.SubjectsUnique.slotTaken (i : Fin 16) : (s.slotTaken i).SubjectsUnique :=
  h.setSlot ((h.sound i).sublist (List.Sublist.refl _) rfl (by simp)) fun e holds => by
    simp [Slot.holds, Slot.unsent] at holds

theorem State.SubjectsUnique.slotSent (i : Fin 16) : (s.slotSent i).SubjectsUnique := h.clearSlot i rfl

/-- A slot keeps of its entries those whose subject no other slot holds unsent (R114). -/
theorem State.SubjectsUnique.slotRetry (i : Fin 16) : (s.slotRetry i).SubjectsUnique := by
  refine h.setSlot ((h.sound i).afterRetry List.filter_sublist) fun e holds j apart => ?_
  obtain ⟨-, x, mem, same⟩ := (Slot.holds_iff _ e).mp holds
  rw [Slot.afterRetry_entries] at mem
  have nowhere : ∀ k : Fin 16, (s.slots.get k).holds x = true → k = i := by
    simpa [State.heldElsewhere] using (List.mem_filter.mp mem).2
  rw [Slot.holds_congr same]
  exact Bool.eq_false_iff.mpr fun other => apart (nowhere j other)

theorem State.SubjectsUnique.slotCollision (i : Fin 16) : (s.slotCollision i).SubjectsUnique := by
  unfold State.slotCollision
  split
  · exact h.clearSlot i rfl
  · exact h.slotRetry i

/-- Every slot replaced by one with the same entries and binding, unsent or unbound no more than it was. -/
theorem State.SubjectsUnique.mapSlots {f : Slot → Slot} (entries : ∀ r, (f r).entries = r.entries)
    (binding : ∀ r, (f r).binding = r.binding) (unsent : ∀ r, (f r).Unsent → r.Unsent)
    (unbound : ∀ r, (f r).state = .idle ∨ (f r).state = .empty → r.state = .idle ∨ r.state = .empty) :
    (s.setSlots (s.slots.map f)).SubjectsUnique := by
  have mapped (i : Fin 16) : (s.setSlots (s.slots.map f)).slot i = f (s.slot i) := Tbl.get_map f s.slots i
  refine h.fewer (fun i => ?_) fun i e holds => ?_
  · rw [mapped]
    refine (h.sound i).sublist (by rw [entries]) (binding _) fun vacant => ?_
    exact (entries _).trans ((h.sound i).none (unbound _ vacant))
  · rw [mapped, Slot.holds_iff, entries] at holds
    obtain ⟨still, same⟩ := holds
    exact (Slot.holds_iff _ e).mpr ⟨unsent _ still, same⟩

/-- COLLECTING slots become PENDING: unsent before and after (R110). -/
theorem State.SubjectsUnique.flushSlots : s.flushSlots.SubjectsUnique := by
  refine h.mapSlots (fun r => ?_) (fun r => ?_) (fun r => ?_) fun r => ?_
  all_goals by_cases collecting : r.state = .collecting <;> simp [collecting, Slot.Unsent]

theorem State.SubjectsUnique.clearSlotFlags : s.clearSlotFlags.SubjectsUnique :=
  h.mapSlots (fun _ => rfl) (fun _ => rfl) (fun _ => id) fun _ => id

/-- A written binding (R109). -/
theorem State.SubjectsUnique.writeSlotBinding {u : State} {i : Fin 16} {data : List Byte}
    (ok : s.writeSlotBinding i data = .ok u) : u.SubjectsUnique := by
  unfold State.writeSlotBinding at ok
  split at ok
  · next vacant =>
    split at ok
    · cases ok
    · obtain rfl := Except.ok.inj ok
      exact h.clearSlot i ((Slot.rebound_entries _ _).trans ((h.sound i).none vacant))
  · cases ok

end

/-- With no slot holding an entry the law stands. -/
theorem State.subjectsUnique_of_nil {s : State} (nil : ∀ i, (s.slot i).entries = []) : s.SubjectsUnique :=
  (State.subjectsUnique_iff s).mpr
    ⟨fun i => .of_nil (nil i), fun e i _ holds => by simp [Slot.holds_of_nil (nil i)] at holds⟩

end Sys2Proof.Machine
end

section
/-! PROOFS. The third law under the blocks that raise events and the turn controller that sends them: each reaches the
slots through raising an event, or through an operation on the slot whose frame it takes, sends or loses (chapters 1 and
3 to 9). -/

namespace Sys2Proof.Machine

section
variable {s : State} (h : s.SubjectsUnique)
include h

/-! ### Surfaces -/

theorem State.SubjectsUnique.gradeChanged (i : Fin 64) (left : Grade) : (s.gradeChanged i left).SubjectsUnique := by
  unfold State.gradeChanged
  split
  · exact h
  · have counted := h.changes
      (s.setSurface_changes i { s.surface i with changes := satInc (s.surface i).changes }) (by decide)
    refine State.SubjectsUnique.changes ?_ (State.evalCondense_changes _) (by decide)
    refine State.SubjectsUnique.changes ?_ (State.reencode_changes _ _) (by decide)
    split
    · exact counted.raise _
    · exact counted

theorem State.SubjectsUnique.regrade (i : Fin 64) (left : Grade) (r : Surface) :
    (s.regrade i left r).SubjectsUnique := by
  have stored := h.changes (s.setSurface_changes i r) (by decide)
  unfold State.regrade
  dsimp only
  split
  · exact stored.gradeChanged i left
  · exact stored

theorem State.SubjectsUnique.evaluate (i : Fin 64) (part : Option (Int × Source)) :
    (s.evaluate i part).SubjectsUnique := by
  unfold State.evaluate
  dsimp only
  split
  · exact h
  · split
    · exact h.regrade i _ _
    · exact h.regrade i _ _

theorem State.SubjectsUnique.unconfirmed (i : Fin 64) : (s.unconfirmed i).SubjectsUnique :=
  h.changes (s.setSurface_changes _ _) (by decide)

theorem State.SubjectsUnique.wetnessArrival (sel : Selector) (w : Wet) : (s.wetnessArrival sel w).SubjectsUnique := by
  cases w with
  | water => exact State.SubjectsUnique.foldl (fun _ i hu => hu.regrade i _ _) h _
  | dry => exact State.SubjectsUnique.foldl (fun _ i hu => hu.unconfirmed i) h _

theorem State.SubjectsUnique.probeNotice (kind : SensorKind) (sel : Selector) :
    (s.probeNotice kind sel).SubjectsUnique := by
  cases kind with
  | air => exact h
  | surface => exact State.SubjectsUnique.foldl (fun _ i hu => hu.regrade i _ _) h _
  | wetness => exact State.SubjectsUnique.foldl (fun _ i hu => hu.unconfirmed i) h _

theorem State.SubjectsUnique.storeSurface (i : Fin 64) (r : Surface) : (s.storeSurface i r).SubjectsUnique := by
  have stored : (if r.config.isSome then s.regrade i (s.surface i).gradeBefore r
      else s.setSurface i r).SubjectsUnique := by
    split
    · exact h.regrade i _ r
    · exact h.changes (s.setSurface_changes i r) (by decide)
  have encoded := (stored.changes (State.reencodeOf_changes _ (s.surface i).config) (by decide)).changes
    (State.reencodeOf_changes _ r.config) (by decide)
  exact encoded.changes (State.evalCondense_changes _) (by decide)

/-! ### Zones and the engine -/

theorem State.SubjectsUnique.raiseZone (z : Fin 32) : (s.raiseZone z).SubjectsUnique := by
  unfold State.raiseZone
  dsimp only
  split
  · exact h.raise _
  · exact h

theorem State.SubjectsUnique.epochExpires : s.epochExpires.SubjectsUnique := by
  have closed := (h.changes (s.setEpochCount_changes 0) (by decide)).changes (State.closeZones_changes _) (by decide)
  have taken := closed.changes (State.takeIfIdle_changes _) (by decide)
  exact (State.SubjectsUnique.foldl (fun _ z hu => hu.raiseZone z) taken _).flushSlots

theorem State.SubjectsUnique.takeJob : s.takeJob.SubjectsUnique := h.changes s.takeJob_changes (by decide)

omit h in
/-- The delivery of an air result raises no event (R54). -/
theorem State.deliverAir_changes (s : State) (sel : Selector) (temp : Int) (rh : Nat) (clamped saturated : Bool)
    (gen version : BitVec 8) :
    s.Changes (s.deliverAir sel temp rh clamped saturated gen version) [.counters, .sdt, .zones, .turn] := by
  unfold State.deliverAir
  dsimp only
  split
  · exact (s.count_changes _).mono (by decide)
  · exact ((s.updDesc_changes _ _).mono (by decide)).andThen (State.accumulateAir_changes _ _ _) (by decide) |>.andThen
      (State.forward_changes _ _ _ _) (by decide)

theorem State.SubjectsUnique.deliverSurface (sel : Selector) (temp : Int) (version : BitVec 8)
    (binding : Option Binding) : (s.deliverSurface sel temp version binding).SubjectsUnique := by
  have delivered := h.changes (s.updDesc_changes sel Descriptor.surfaceDelivered) (by decide)
  unfold State.deliverSurface
  dsimp only
  split
  · exact h.changes (s.count_changes _) (by decide)
  · split
    · exact delivered.changes (State.forward_changes _ _ _ _) (by decide)
    · split
      · exact (delivered.changes (State.count_changes _ _) (by decide)).changes (State.forward_changes _ _ _ _)
          (by decide)
      · exact (delivered.evaluate _ _).changes (State.forward_changes _ _ _ _) (by decide)

theorem State.SubjectsUnique.completeAir : s.completeAir.SubjectsUnique := by
  unfold State.completeAir
  split
  · exact (h.changes (s.deliverAir_changes _ _ _ _ _ _ _) (by decide)).takeJob
  all_goals exact h

theorem State.SubjectsUnique.completeSurface : s.completeSurface.SubjectsUnique := by
  unfold State.completeSurface
  split
  · exact (h.deliverSurface _ _ _ _).takeJob
  all_goals exact h

theorem State.SubjectsUnique.completeZone : s.completeZone.SubjectsUnique := by
  unfold State.completeZone
  split
  · exact ((h.changes (s.updZone_changes _ _) (by decide)).raiseZone _).takeJob
  all_goals exact h

/-! ### Samples -/

theorem State.SubjectsUnique.raiseSensor (sel : Selector) (left : SensorState) :
    (s.raiseSensor sel left).SubjectsUnique := by
  unfold State.raiseSensor
  dsimp only
  split
  · exact h
  · split
    · exact h.raise _
    · exact h

theorem State.SubjectsUnique.raiseRecovery (sel : Selector) (before : Descriptor) :
    (s.raiseRecovery sel before).SubjectsUnique := by
  unfold State.raiseRecovery
  split
  · exact h.raiseSensor _ _
  · exact h

theorem State.SubjectsUnique.rejectSample (sel : Selector) (kind : SensorKind) :
    (s.rejectSample sel kind).SubjectsUnique := by
  have stored := h.changes (s.setDesc_changes sel (s.desc sel).rejected) (by decide)
  refine State.SubjectsUnique.changes ?_ (State.forwardReject_changes _ _ _) (by decide)
  split
  · exact (stored.raiseSensor _ _).probeNotice _ _
  · exact stored

theorem State.SubjectsUnique.formatReject (sel : Selector) (kind : SensorKind) :
    (s.formatReject sel kind).SubjectsUnique :=
  (h.changes (s.updDesc_changes _ _) (by decide)).rejectSample sel kind

theorem State.SubjectsUnique.plausibilityReject (sel : Selector) (kind : SensorKind) :
    (s.plausibilityReject sel kind).SubjectsUnique :=
  (h.changes (s.updDesc_changes _ _) (by decide)).rejectSample sel kind

/-- The descriptor an accepted sample leaves, and the recovery event (R14). -/
theorem State.SubjectsUnique.recovered (sel : Selector) (d before : Descriptor) :
    ((s.setDesc sel d).raiseRecovery sel before).SubjectsUnique :=
  (h.changes (s.setDesc_changes sel d) (by decide)).raiseRecovery sel before

theorem State.SubjectsUnique.acceptWetness (sel : Selector) (w : Wet) : (s.acceptWetness sel w).SubjectsUnique :=
  ((h.recovered sel _ _).wetnessArrival sel w).changes (State.forward_changes _ _ _ _) (by decide)

theorem State.SubjectsUnique.readingArrives (sel : Selector) (c : SensorConfig) (r : Raw) :
    (s.readingArrives sel c r).SubjectsUnique := by
  cases r with
  | air temp rh =>
    simp only [State.readingArrives]
    split
    · exact (h.recovered sel _ _).changes (State.offerJob_changes _ _) (by decide)
    · exact h.plausibilityReject _ _
  | surface temp =>
    simp only [State.readingArrives]
    split
    · exact (h.recovered sel _ _).changes (State.offerJob_changes _ _) (by decide)
    · exact h.plausibilityReject _ _
  | wetness w => exact h.acceptWetness sel w

theorem State.SubjectsUnique.sampleArrives (sel : Selector) (f : Frame) : (s.sampleArrives sel f).SubjectsUnique := by
  unfold State.sampleArrives
  split
  · exact h.changes (s.count_changes _) (by decide)
  · next c _ =>
    have copied := h.changes (s.rawCopy_changes c f) (by decide)
    dsimp only
    split
    · exact copied.formatReject _ _
    · exact copied.plausibilityReject _ _
    · exact copied.readingArrives _ _ _

theorem State.SubjectsUnique.goStale (sel : Selector) : (s.goStale sel).SubjectsUnique := by
  unfold State.goStale
  dsimp only
  split
  · exact h
  · exact ((h.changes (s.setDesc_changes _ _) (by decide)).raiseSensor _ _).probeNotice _ _

theorem State.SubjectsUnique.storeDesc (sel : Selector) (c : Option SensorConfig) :
    (s.storeDesc sel c).SubjectsUnique := by
  have stored := (h.changes (s.setDesc_changes sel ((s.desc sel).written c)) (by decide)).changes
    (State.setEvalQueue_changes _ (s.evalQueue.filter fun q => decide (q.sel ≠ sel))) (by decide)
  unfold State.storeDesc
  dsimp only
  split
  · exact stored
  · exact stored.probeNotice _ _

omit h in
theorem State.tick_changes (s : State) : s.Changes s.tick [.sdt, .epochCount, .turn, .due] :=
  ((s.setSdt_changes _).mono (by decide)).andThen (State.setEpochCount_changes _ _) (by decide) |>.andThen
    (State.setTurn_changes _ _) (by decide) |>.andThen (State.setDue_changes _ _) (by decide)

/-! ### The uplink -/

theorem State.SubjectsUnique.updTurn (f : Turn → Turn) : (s.updTurn f).SubjectsUnique :=
  h.changes (s.updTurn_changes f) (by decide)

theorem State.SubjectsUnique.commitSlot (i : Fin 16) : (s.commitSlot i).SubjectsUnique := (h.slotTaken i).updTurn _

theorem State.SubjectsUnique.commitQueued : s.commitQueued.SubjectsUnique := by
  unfold State.commitQueued
  split
  · split
    · exact h.updTurn _
    · exact h.commitSlot _
  · exact h.updTurn _
  · exact h.commitSlot _
  · exact h.updTurn _

theorem State.SubjectsUnique.frameOpportunity : s.frameOpportunity.SubjectsUnique := by
  unfold State.frameOpportunity
  split
  · exact h.updTurn _
  · split
    · exact h.updTurn _
    · exact h.commitQueued

theorem State.SubjectsUnique.withdraw (c : Committed) : (s.withdraw c).SubjectsUnique := by
  have freed := h.updTurn fun t => { t with withU := .none }
  unfold State.withdraw
  dsimp only
  split
  · exact freed.updTurn _
  · exact freed.slotRetry _
  · exact freed.updTurn _
  · exact freed

theorem State.SubjectsUnique.beginTurn (budget : Nat) (tag : Byte) : (s.beginTurn budget tag).SubjectsUnique := by
  have begun := h.updTurn fun t => { t with state := .turn, budget := budget, sent := 0, run := 0, tag := tag }
  unfold State.beginTurn
  dsimp only
  split
  · exact begun.frameOpportunity
  · split
    · exact begun.updTurn _
    · exact (begun.withdraw _).frameOpportunity

theorem State.SubjectsUnique.endSilence : s.endSilence.SubjectsUnique := by
  unfold State.endSilence
  split
  · exact ((h.updTurn _).raise _).changes (State.evalCondense_changes _) (by decide)
  · exact h

theorem State.SubjectsUnique.enterSilent : s.enterSilent.SubjectsUnique :=
  (((h.updTurn _).changes (State.setDue_changes _ _) (by decide)).raise _).changes
    (State.evalCondense_changes _) (by decide)

theorem State.SubjectsUnique.takeGrant (f : Frame) : (s.takeGrant f).SubjectsUnique :=
  (h.updTurn fun t => { t with silence := 0 }).endSilence.beginTurn _ _

theorem State.SubjectsUnique.joinReplies (f : Frame) (src : ReplySource) : (s.joinReplies f src).SubjectsUnique :=
  h.changes (s.joinReplies_changes f src) (by decide)

theorem State.SubjectsUnique.pollSlot (f : Frame) (i : Fin 16) : (s.pollSlot f i).SubjectsUnique := by
  have answered : (if (s.slot i).binding.inhibit then s.pollStatus f .deferred
      else (s.slotTaken i).joinReplies (s.reportFrame i f.env.tag) (.pollReport i)).SubjectsUnique := by
    split
    · exact h.joinReplies _ _
    · exact (h.slotTaken i).joinReplies _ _
  unfold State.pollSlot
  split
  · exact answered
  · exact answered
  all_goals exact h.joinReplies _ _

theorem State.SubjectsUnique.takePoll (f : Frame) : (s.takePoll f).SubjectsUnique := by
  unfold State.takePoll
  split
  · exact h.joinReplies _ _
  · split
    · exact h.pollSlot f _
    · exact h.joinReplies _ _

theorem State.SubjectsUnique.afterSent : s.afterSent.SubjectsUnique := by
  unfold State.afterSent
  split
  · exact h
  · split
    · exact h.frameOpportunity
    all_goals exact (h.updTurn _).updTurn _

theorem State.SubjectsUnique.settleSent (src : TxSource) : (s.settleSent src).SubjectsUnique := by
  unfold State.settleSent
  split
  · exact (h.slotSent _).afterSent
  · exact (h.changes (s.replyEnds_changes _) (by decide)).afterSent
  · exact (h.slotSent _).afterSent
  · exact h.afterSent
  · exact (h.updTurn _).updTurn _

theorem State.SubjectsUnique.uSent : s.uSent.SubjectsUnique := by
  unfold State.uSent
  split
  · exact ((h.changes (s.updPort_changes _ _) (by decide)).updTurn _).settleSent _
  · exact h

theorem State.SubjectsUnique.settleCollision (src : TxSource) : (s.settleCollision src).SubjectsUnique := by
  unfold State.settleCollision
  split
  · exact h.slotCollision _
  · exact h.changes (s.replyEnds_changes _) (by decide)
  · exact h.slotCollision _
  · exact h.updTurn _
  · exact h

theorem State.SubjectsUnique.uCollides : s.uCollides.SubjectsUnique := by
  unfold State.uCollides
  split
  · exact h
  · next c _ =>
    have settled := ((h.changes (s.updPort_changes .u PortRec.uReleased) (by decide)).updTurn fun t =>
      { t with withU := .none, state := .listen, collisions := satInc t.collisions }).settleCollision c.source
    dsimp only
    split
    · exact settled
    · exact settled.updTurn _

end

end Sys2Proof.Machine
end

section
/-! PROOFS. The third law under management, the router, reset and RESTART, and so under every step (chapters 8, 10 and
11, R107). -/

namespace Sys2Proof.Machine

section
variable {s : State} (h : s.SubjectsUnique)
include h

/-! ### Management -/

theorem State.SubjectsUnique.writeEntry {u : State} {data : List Byte} {table : Table} {arrival : Port} {i : Byte}
    (ok : s.writeEntry table arrival i data = .ok u) : u.SubjectsUnique := by
  cases table with
  | sdt =>
    simp only [State.writeEntry, State.writeDesc] at ok
    split at ok
    · cases ok
    · exact Except.ok.inj ok ▸ h.storeDesc _ _
  | svtActive => cases ok
  | svtShadow => cases ok
  | sft =>
    simp only [State.writeEntry, State.writeSurface] at ok
    split at ok
    · split at ok
      · cases ok
      · exact Except.ok.inj ok ▸ h.storeSurface _ _
    · cases ok
  | thr =>
    simp only [State.writeEntry] at ok
    split at ok
    · exact h.changes (State.writeThrSet_changes ok) (by decide)
    · cases ok
  | zone =>
    simp only [State.writeEntry] at ok
    split at ok
    · exact h.changes (State.writeZoneConfig_changes ok) (by decide)
    · cases ok
  | slot =>
    simp only [State.writeEntry] at ok
    split at ok
    · exact h.writeSlotBinding ok
    · cases ok
  | config =>
    simp only [State.writeEntry] at ok
    split at ok
    · exact h.changes (State.writeEpoch_changes ok) (by decide)
    · exact h.changes (State.writeSilence_changes ok) (by decide)
    · exact h.changes (State.writeLines_changes ok) (by decide)
    · cases ok

theorem State.SubjectsUnique.writeAnswer (p : Port) (level : Nat) (a : Args) :
    (s.writeAnswer p level a).1.SubjectsUnique := by
  rcases s.writeAnswer_cases p level a with same | ⟨table, ok⟩
  · rwa [same]
  · exact h.writeEntry ok

theorem State.SubjectsUnique.exchangeAnswer (level : Nat) (a : Args) :
    (s.exchangeAnswer level a).1.SubjectsUnique := by
  rcases s.exchangeAnswer_cases level a with same | ⟨table, v, ok, e⟩
  · rwa [same]
  · rw [← e]
    rcases State.exchangeEntry_cases ok with ⟨i, c, e⟩ | apart
    · exact e ▸ h.storeSurface i _
    · exact h.changes apart (by decide)

/-- CLEAR COUNTERS returns the sent counters of the slots to 0 and leaves their entries (R116). -/
theorem State.SubjectsUnique.zeroCounters : s.zeroCounters.SubjectsUnique := by
  have rejects := h.changes (s.setSdt_changes (s.sdt.map fun d =>
    { d with formatRejects := 0, plausibilityRejects := 0 })) (by decide)
  have zeroed := (rejects.changes (State.setCounters_changes _ .zero) (by decide)).changes
    (State.setPorts_changes _ (s.ports.map fun r => { r with count := .zero, router := .zero })) (by decide)
  exact (zeroed.mapSlots (f := fun r => { r with sent := 0 }) (fun _ => rfl) (fun _ => rfl) (fun _ => id)
    fun _ => id).changes (State.setTurn_changes _ _) (by decide)

theorem State.SubjectsUnique.clear (target : Target) : (s.clear target).SubjectsUnique := by
  cases target with
  | counters => exact h.zeroCounters
  | accessed => exact h.changes (s.setSdt_changes _) (by decide)
  | slotFlags => exact h.clearSlotFlags
  | surfaceCounts => exact h.changes (s.setSurfaces_changes _) (by decide)
  | zoneFlags => exact h.changes (s.setZones_changes _) (by decide)
  | alarm =>
    exact (h.changes (s.setAlarmLoss_changes false) (by decide)).changes (State.evalCondense_changes _) (by decide)

theorem State.SubjectsUnique.clearAnswer (level : Nat) (a : Args) : (s.clearAnswer level a).1.SubjectsUnique := by
  rcases s.clearAnswer_cases level a with same | ⟨target, e⟩
  · rwa [same]
  · exact e ▸ h.clear target

omit h in
/-- Serving an answer keeps the law where the answered change kept it. -/
theorem State.SubjectsUnique.serve (s : State) (q : Request) {r : State × Answer} (h : r.1.SubjectsUnique) :
    (s.serve q r).SubjectsUnique := h.changes (r.1.setMgmt_changes _) (by decide)

theorem State.SubjectsUnique.beginCommit (q : Request) (a : Args) : (s.beginCommit q a).SubjectsUnique := by
  unfold State.beginCommit
  split
  · exact .serve s q h
  · exact h.changes (s.setMgmt_changes _) (by decide)

theorem State.SubjectsUnique.beginRestart (q : Request) (a : Args) : (s.beginRestart q a).SubjectsUnique := by
  unfold State.beginRestart
  split
  · exact .serve s q h
  · exact (h.changes (s.setMgmt_changes _) (by decide)).changes (State.handReply_changes _ _ _ _) (by decide)

theorem State.SubjectsUnique.take (q : Request) : (s.take q).SubjectsUnique := by
  unfold State.take
  split
  · exact .serve s q h
  · split
    · exact .serve s q h
    · exact .serve s q h
    · exact .serve s q (h.writeAnswer _ _ _)
    · exact .serve s q (h.exchangeAnswer _ _)
    · exact .serve s q (h.changes (s.loadAnswer_changes _ _) (by decide))
    · exact h.beginCommit q _
    · exact .serve s q h
    · exact .serve s q (h.clearAnswer _ _)
    · exact h.beginRestart q _

theorem State.SubjectsUnique.request (p : Port) (f : Frame) : (s.request p f).SubjectsUnique := by
  unfold State.request
  split
  · exact h.take _
  · exact h.changes (s.handReply_changes _ _ _) (by decide)

/-! ### The router -/

theorem State.SubjectsUnique.countRouter (p : Port) (f : RouterCounters → RouterCounters) :
    (s.countRouter p f).SubjectsUnique := h.changes (s.countRouter_changes p f) (by decide)

theorem State.SubjectsUnique.routeSample (p : FloorPort) (f : Frame) : (s.routeSample p f).SubjectsUnique := by
  unfold State.routeSample
  split
  · exact h.countRouter _ _
  · exact h.sampleArrives _ _

theorem State.SubjectsUnique.routeRequest (p : Port) (f : Frame) : (s.routeRequest p f).SubjectsUnique := by
  unfold State.routeRequest
  split
  · split
    · exact h.countRouter _ _
    · exact h.updTurn _
  · exact State.SubjectsUnique.request (h.changes (s.updPort_changes _ _) (by decide)) p f

theorem State.SubjectsUnique.routeFrame (p : Port) (f : Frame) : (s.routeFrame p f).SubjectsUnique := by
  cases p with
  | floor q =>
    simp only [State.routeFrame, State.routeFloor]
    split
    · exact h.routeSample q _
    · exact h.changes (s.routeNodeStatus_changes q _) (by decide)
    · exact h.routeRequest _ _
    · exact h.countRouter _ _
    · exact h.countRouter _ _
    all_goals exact h
  | u =>
    simp only [State.routeFrame, State.routeSupervisor]
    split
    · exact h
    · exact h.takeGrant f
    · exact h.takePoll f
    · exact h.changes (s.routeNodeCmd_changes f) (by decide)
    · exact h.routeRequest _ _
    · exact h.countRouter _ _
    · exact h.countRouter _ _
    all_goals exact h

/-! ### Reset and RESTART -/

/-- RESET leaves the slots (R191). -/
theorem State.SubjectsUnique.enterReset : s.enterReset.SubjectsUnique := h.fewer h.sound fun _ _ => id

theorem State.SubjectsUnique.raiseDark : s.raiseDark.SubjectsUnique :=
  State.SubjectsUnique.foldl (fun u p hu => by
    split
    · exact hu
    · exact hu.raise _) h _

end

/-- No slot holds an entry before the COLD START event is placed (R117). -/
theorem State.powerOnValues_subjectsUnique (pins : Pins) (unitNo : BitVec 4) (pending : List Instr) :
    (State.powerOnValues pins unitNo pending).SubjectsUnique :=
  State.subjectsUnique_of_nil fun i => by
    have slots : (State.powerOnValues pins unitNo pending).slot i = slotsPowerOn.get i := rfl
    rw [slots, slotsPowerOn, Tbl.get_set]
    split
    · rfl
    · rw [Tbl.get_fill]
      rfl

theorem State.powerUp_subjectsUnique (s : State) (straps : BitVec 3) : (s.powerUp straps).SubjectsUnique :=
  (((State.powerOnValues_subjectsUnique _ _ _).changes (State.evalCondense_changes _) (by decide)).raise _).raiseDark

theorem State.loseSupply_subjectsUnique (s : State) : s.loseSupply.SubjectsUnique :=
  (State.powerOnValues_subjectsUnique s.pins s.unitNo s.pending).changes (State.setPower_changes _ .unpowered)
    (by decide)

/-- A RESTART empties every slot before the WARM START event is placed (R118). -/
theorem State.restartEffect_subjectsUnique (s : State) : s.restartEffect.SubjectsUnique := by
  have emptied : s.restartValues.SubjectsUnique := State.subjectsUnique_of_nil fun i => by
    have restarted : s.restartValues.slot i = (s.slot i).restarted := Tbl.get_map _ _ i
    rw [restarted]
    rfl
  have encoded := (emptied.changes (State.reencodeAll_changes _) (by decide)).changes
    (State.evalCondense_changes _) (by decide)
  exact (encoded.raise _).raiseDark

/-! ### Every step -/

theorem subjectsUnique_kept : State.KeptByOperations State.SubjectsUnique where
  outside k h := h.changes k (by decide)
  raise _ e h := h.raise e
  enterReset _ h := h.enterReset
  powerUp s straps _ := s.powerUp_subjectsUnique straps
  loseSupply s _ := s.loseSupply_subjectsUnique
  restartEffect s _ := s.restartEffect_subjectsUnique
  tick s h := h.changes s.tick_changes (by decide)
  goStale _ sel h := h.goStale sel
  epochExpires _ h := h.epochExpires
  enterSilent _ h := h.enterSilent
  routeFrame _ p f h := h.routeFrame p f
  uSent _ h := h.uSent
  uCollides _ h := h.uCollides
  completeAir _ h := h.completeAir
  completeSurface _ h := h.completeSurface
  completeZone _ h := h.completeZone
  commitEnds s h := h.changes s.commitEnds_changes (by decide)
  serviceEnds s h := h.changes s.serviceEnds_changes (by decide)

/-- Settles O59: read slot by slot the law is that a slot is sound and a subject has one holder, and so read it is kept
by each operation of a step. -/
theorem stepsKeepSubjectsUnique : Obligations.StepsKeepSubjectsUnique := by
  unfold Obligations.StepsKeepSubjectsUnique
  exact fun s t unique stepped => subjectsUnique_kept.ofStep unique stepped

end Sys2Proof.Machine
end

section
/-! PROOFS. The commit check: when a bank passes it, and the first index at which it fails (R33, R34). -/

namespace Sys2Proof.Machine

/-- Every entry of a list is below the next one. -/
def RisingSteps (l : List SvtEntry) : Prop :=
  ∀ k : Nat, k + 1 < l.length → (l.getD k 0).toNat < (l.getD (k + 1) 0).toNat

theorem risingSteps_cons_cons (a b : SvtEntry) (l : List SvtEntry) :
    RisingSteps (a :: b :: l) ↔ a.toNat < b.toNat ∧ RisingSteps (b :: l) := by
  constructor
  · exact fun h => ⟨by simpa using h 0 (by simp), fun k hk => by simpa using h (k + 1) (by simpa using hk)⟩
  · rintro ⟨first, rest⟩ (_ | k) hk
    · simpa using first
    · simpa using rest k (by simpa using hk)

/-- The search for a fall finds none exactly in a list that rises at every step. -/
theorem firstFall_eq_none_iff (l : List SvtEntry) (i : Nat) : firstFall l i = none ↔ RisingSteps l := by
  induction l, i using firstFall.induct with
  | case1 a b rest i fall => simp [firstFall, fall, risingSteps_cons_cons, Nat.not_lt_of_le fall]
  | case2 a b rest i rise ih => simp [firstFall, rise, risingSteps_cons_cons, ih, Nat.lt_of_not_le rise]
  | case3 l i short =>
    have one : l.length ≤ 1 := by
      rcases l with _ | ⟨a, _ | ⟨b, l⟩⟩
      · simp
      · simp
      · exact absurd rfl (short a b l)
    have unfolded : firstFall l i = none := by
      rcases l with _ | ⟨a, _ | ⟨b, l⟩⟩
      · rfl
      · rfl
      · simp at one
    exact iff_of_true unfolded fun k hk => absurd hk (by omega)

/-- The search stops at the first entry that is not above the one before. -/
theorem firstFall_eq_some {l : List SvtEntry} {k : Nat} (i : Nat) (inside : k + 1 < l.length)
    (fall : (l.getD (k + 1) 0).toNat ≤ (l.getD k 0).toNat)
    (before : ∀ j < k, (l.getD j 0).toNat < (l.getD (j + 1) 0).toNat) :
    firstFall l i = some (i + k + 1) := by
  induction k generalizing l i with
  | zero =>
    obtain ⟨a, b, rest, rfl⟩ : ∃ a b rest, l = a :: b :: rest := by
      rcases l with _ | ⟨a, _ | ⟨b, rest⟩⟩
      · simp at inside
      · simp at inside
      · exact ⟨a, b, rest, rfl⟩
    have falls : b.toNat ≤ a.toNat := by simpa using fall
    simp [firstFall, falls]
  | succ k ih =>
    obtain ⟨a, b, rest, rfl⟩ : ∃ a b rest, l = a :: b :: rest := by
      rcases l with _ | ⟨a, _ | ⟨b, rest⟩⟩
      · simp at inside
      · simp at inside
      · exact ⟨a, b, rest, rfl⟩
    have rises : a.toNat < b.toNat := by simpa using before 0 (by omega)
    have later := ih (l := b :: rest) (i + 1) (by simpa using inside) (by simpa using fall)
      fun j hj => by simpa using before (j + 1) (by omega)
    rw [firstFall, if_neg (Nat.not_le_of_lt rises), later]
    congr 1
    omega

theorem Bank.risingSteps_iff (b : Bank) : RisingSteps b.cells ↔ Bank.Rising b := by
  have length : b.cells.length = 251 := b.size
  constructor
  · intro steps i j hij
    rw [← Bank.entry_eq_get, ← Bank.entry_eq_get]
    have climb : ∀ m, i.val + m + 1 ≤ 250 → Bank.entry b i.val < Bank.entry b (i.val + m + 1) := by
      intro m
      induction m with
      | zero => exact fun hm => steps i.val (by omega)
      | succ m ih => exact fun hm => Nat.lt_trans (ih (by omega)) (steps (i.val + m + 1) (by omega))
    have apart : i.val + (j.val - i.val - 1) + 1 = j.val := by have := Fin.lt_def.mp hij; omega
    have := climb (j.val - i.val - 1) (by omega)
    rwa [apart] at this
  · exact fun rises k hk => rises.entry_lt (Nat.lt_succ_self k) (by omega)

/-- R33: a bank passes the commit check exactly when E[0] is 1 or more and the entries rise. -/
theorem Bank.failure_eq_none_iff (b : Bank) : Bank.failure b = none ↔ 1 ≤ (b.get 0).toNat ∧ Bank.Rising b := by
  rw [← Bank.entry_eq_get, ← Bank.risingSteps_iff, ← firstFall_eq_none_iff _ 0]
  unfold Bank.failure
  split
  · next zero => simp [zero]
  · next some => exact (and_iff_right (Nat.pos_of_ne_zero some)).symm

/-- R34: with E[0] at 1 or more the check names the first index whose entry does not rise. -/
theorem Bank.failure_eq_some {b : Bank} {i j : Fin 251} (first : 1 ≤ (b.get 0).toNat) (next : j.val = i.val + 1)
    (fall : (b.get j).toNat ≤ (b.get i).toNat)
    (before : ∀ k l : Fin 251, l.val = k.val + 1 → k < i → (b.get k).toNat < (b.get l).toNat) :
    Bank.failure b = some j.val := by
  have length : b.cells.length = 251 := b.size
  have entry (k : Nat) (hk : k < 251) : (b.cells.getD k 0).toNat = (b.get ⟨k, hk⟩).toNat := Bank.entry_eq_get b ⟨k, hk⟩
  have found := firstFall_eq_some (l := b.cells) (k := i.val) 0 (by omega)
    (by
      have same : (⟨i.val + 1, by omega⟩ : Fin 251) = j := Fin.ext next.symm
      rw [entry _ (by omega), entry _ (by omega), same]
      exact fall)
    fun k hk => by
      rw [entry _ (by omega), entry _ (by omega)]
      exact before _ _ rfl hk
  rw [← Bank.entry_eq_get] at first
  have zero : (0 : Fin 251).val = 0 := rfl
  rw [zero] at first
  rw [Bank.failure, if_neg (by omega), found, next]
  congr 1
  omega

/-- The factory table passes the commit check (R27). -/
theorem factoryTable_failure : Bank.failure factoryTable = none := by decide +kernel

end Sys2Proof.Machine
end

section
/-! PROOFS. The laws of the tables and the bounds under the operations that steps are made of: one relation for all of
them, and the ports' downward queues (R33, R38, R63, R79, R80, R138, R148, R159, R165). -/

namespace Sys2Proof.Machine

/-! ### The relation -/

/-- Each law that `s` meets `t` meets too, and the queue of commands is the same. -/
structure State.Upholds (s t : State) : Prop where
  active : s.ActiveRising → t.ActiveRising
  thresholds : s.ThresholdsOrdered → t.ThresholdsOrdered
  probes : s.ProbesUnique → t.ProbesUnique
  budget : s.WithinBudget → t.WithinBudget
  weights : s.WeightsBounded → t.WeightsBounded
  evalQueue : s.EvalQueueSound → t.EvalQueueSound
  downward : s.DownwardBounded → t.DownwardBounded
  forwardQueue : s.ForwardQueueBounded → t.ForwardQueueBounded
  pending : t.pending = s.pending

theorem State.Upholds.refl (s : State) : s.Upholds s := ⟨id, id, id, id, id, id, id, id, rfl⟩

theorem State.Upholds.trans {s t u : State} (h : s.Upholds t) (k : t.Upholds u) : s.Upholds u where
  active := k.active ∘ h.active
  thresholds := k.thresholds ∘ h.thresholds
  probes := k.probes ∘ h.probes
  budget := k.budget ∘ h.budget
  weights := k.weights ∘ h.weights
  evalQueue := k.evalQueue ∘ h.evalQueue
  downward := k.downward ∘ h.downward
  forwardQueue := k.forwardQueue ∘ h.forwardQueue
  pending := k.pending.trans h.pending

theorem State.Upholds.foldl {α : Type} {f : State → α → State} {s t : State} (h : s.Upholds t)
    (step : ∀ (u : State) (a : α), u.Upholds (f u a)) (l : List α) : s.Upholds (l.foldl f t) := by
  induction l generalizing t with
  | nil => exact h
  | cons a l ih => exact ih (h.trans (step t a))

/-- A change inside some fields upholds the laws that do not read them; the others are to be shown. -/
theorem State.Changes.upholds {s t : State} {fs : List Field} (h : s.Changes t fs)
    (pending : .pending ∉ fs := by decide)
    (active : .svt ∉ fs ∨ (s.ActiveRising → t.ActiveRising) := by exact .inl (by decide))
    (thresholds : .thr ∉ fs ∨ (s.ThresholdsOrdered → t.ThresholdsOrdered) := by exact .inl (by decide))
    (probes : .surfaces ∉ fs ∨ (s.ProbesUnique → t.ProbesUnique) := by exact .inl (by decide))
    (budget : .turn ∉ fs ∨ (s.WithinBudget → t.WithinBudget) := by exact .inl (by decide))
    (weights : .zones ∉ fs ∨ (s.WeightsBounded → t.WeightsBounded) := by exact .inl (by decide))
    (evalQueue : .evalQueue ∉ fs ∨ (s.EvalQueueSound → t.EvalQueueSound) := by exact .inl (by decide))
    (downward : .ports ∉ fs ∨ (s.DownwardBounded → t.DownwardBounded) := by exact .inl (by decide))
    (forwardQueue : .turn ∉ fs ∨ (s.ForwardQueueBounded → t.ForwardQueueBounded) := by exact .inl (by decide)) :
    s.Upholds t where
  active := active.elim (fun out => by simp [State.ActiveRising, show t.svt = s.svt from h.same _ out]) id
  thresholds := thresholds.elim
    (fun out => by simp [State.ThresholdsOrdered, show t.thr = s.thr from h.same _ out]) id
  probes := probes.elim (fun out => by
    simp only [State.ProbesUnique, State.surface, show t.surfaces = s.surfaces from h.same _ out]; exact id) id
  budget := budget.elim (fun out => by simp [State.WithinBudget, show t.turn = s.turn from h.same _ out]) id
  weights := weights.elim
    (fun out => by simp [State.WeightsBounded, State.zone, show t.zones = s.zones from h.same _ out]) id
  evalQueue := evalQueue.elim
    (fun out => by simp [State.EvalQueueSound, show t.evalQueue = s.evalQueue from h.same _ out]) id
  downward := downward.elim
    (fun out => by simp [State.DownwardBounded, State.port, show t.ports = s.ports from h.same _ out]) id
  forwardQueue := forwardQueue.elim
    (fun out => by simp [State.ForwardQueueBounded, show t.turn = s.turn from h.same _ out]) id
  pending := h.same .pending pending

/-- The fields that the laws read. -/
def lawFields : List Field := [.svt, .thr, .surfaces, .turn, .zones, .evalQueue, .ports, .pending]

section
variable {s t u : State} (h : s.Upholds t)
include h

/-- A change of fields that no law reads. -/
theorem State.Upholds.changes {fs : List Field} (c : t.Changes u fs)
    (apart : ∀ f ∈ lawFields, f ∉ fs := by decide) : s.Upholds u :=
  have out (f : Field) (read : f ∈ lawFields := by decide) : f ∉ fs := apart f read
  h.trans (c.upholds (out .pending) (.inl (out .svt)) (.inl (out .thr)) (.inl (out .surfaces)) (.inl (out .turn))
    (.inl (out .zones)) (.inl (out .evalQueue)) (.inl (out .ports)) (.inl (out .turn)))

theorem State.Upholds.raise (e : Event) : s.Upholds (t.raise e) := h.changes (t.raise_changes e)

theorem State.Upholds.evalCondense : s.Upholds t.evalCondense := h.changes t.evalCondense_changes

theorem State.Upholds.count (f : UnitCounters → UnitCounters) : s.Upholds (t.count f) := h.changes (t.count_changes f)

theorem State.Upholds.setMgmt (e : Engine) : s.Upholds (t.setMgmt e) := h.changes (t.setMgmt_changes e)

theorem State.Upholds.updDesc (sel : Selector) (f : Descriptor → Descriptor) : s.Upholds (t.updDesc sel f) :=
  h.changes (t.updDesc_changes sel f)

/-! ### Ports -/

/-- A port whose downward queue holds no more than 4 frames if it did before. -/
theorem State.Upholds.setPort (p : Port) (r : PortRec)
    (short : (t.port p).downward.length ≤ 4 → r.downward.length ≤ 4) : s.Upholds (t.setPort p r) := by
  refine h.trans ((t.setPort_changes p r).upholds (downward := .inr fun bounded q => ?_))
  by_cases same : q = p
  · subst same
    simpa using short (bounded q)
  · simpa [t.setPort_port_ne r same] using bounded q

theorem State.Upholds.updPort (p : Port) (f : PortRec → PortRec)
    (short : ∀ r : PortRec, r.downward.length ≤ 4 → (f r).downward.length ≤ 4) : s.Upholds (t.updPort p f) :=
  h.setPort p _ (short _)

/-- A port whose downward queue stays as it is. -/
theorem State.Upholds.updPort_same (p : Port) (f : PortRec → PortRec) (same : ∀ r : PortRec, (f r).downward = r.downward) :
    s.Upholds (t.updPort p f) := h.updPort p f fun r => by rw [same]; exact id

/-- All ports changed by one function. -/
theorem State.Upholds.mapPorts (f : PortRec → PortRec)
    (short : ∀ r : PortRec, r.downward.length ≤ 4 → (f r).downward.length ≤ 4) : s.Upholds (t.setPorts (t.ports.map f)) :=
  h.trans ((t.setPorts_changes _).upholds (downward := .inr fun bounded p => by
    simpa [State.port] using short _ (bounded p)))

/-! ### The turn controller -/

theorem State.Upholds.updTurn (f : Turn → Turn)
    (budget : t.turn.sent ≤ t.turn.budget ∧ t.turn.budget ≤ 16 → (f t.turn).sent ≤ (f t.turn).budget ∧ (f t.turn).budget ≤ 16)
    (fq : t.turn.fq.length ≤ 32 → (f t.turn).fq.length ≤ 32) : s.Upholds (t.updTurn f) :=
  h.trans ((t.updTurn_changes f).upholds (budget := .inr budget) (forwardQueue := .inr fq))

/-- A change of the turn controller that leaves the turn's budget and count and the forward queue. -/
theorem State.Upholds.updTurn_same (f : Turn → Turn) (budget : (f t.turn).budget = t.turn.budget := by rfl)
    (sent : (f t.turn).sent = t.turn.sent := by rfl) (fq : (f t.turn).fq = t.turn.fq := by rfl) :
    s.Upholds (t.updTurn f) :=
  h.updTurn f (by rw [budget, sent]; exact id) (by rw [fq]; exact id)

/-! ### Zones and surfaces -/

theorem State.Upholds.setZone (z : Fin 32) (r : Zone) (light : (t.zone z).sw ≤ 15 * (t.zone z).n → r.sw ≤ 15 * r.n) :
    s.Upholds (t.setZone z r) := by
  refine h.trans ((t.setZone_changes z r).upholds (weights := .inr fun bounded y => ?_))
  by_cases same : y = z
  · subst same
    simpa using light (bounded y)
  · simpa [t.setZone_zone_ne r same] using bounded y

theorem State.Upholds.reencode (z : Fin 32) : s.Upholds (t.reencode z) := h.setZone z _ id

theorem State.Upholds.reencodeOf (c : Option SurfaceConfig) : s.Upholds (t.reencodeOf c) := by
  cases c with
  | none => exact h
  | some c => exact h.reencode c.zone

/-- A record stored under the configuration the old one had. -/
theorem State.Upholds.setSurface (i : Fin 64) (r : Surface) (config : r.config = (t.surface i).config) :
    s.Upholds (t.setSurface i r) := by
  refine h.trans ((t.setSurface_changes i r).upholds (probes := .inr fun unique => ?_))
  have kept (j : Fin 64) : ((t.setSurface i r).surface j).config = (t.surface j).config := by
    by_cases same : j = i
    · subst same
      simpa using config
    · rw [t.setSurface_surface_ne r same]
  intro j k
  rw [kept, kept]
  exact unique j k

/-- A record stored under a configuration that R80 admits. -/
theorem State.Upholds.setSurface_admitted (i : Fin 64) (r : Surface)
    (admitted : ∀ c, r.config = some c → t.sftAdmits i c = true) : s.Upholds (t.setSurface i r) := by
  refine h.trans ((t.setSurface_changes i r).upholds (probes := .inr fun unique => ?_))
  have alone (c : SurfaceConfig) (hc : r.config = some c) (k : Fin 64) (d : SurfaceConfig)
      (hd : (t.surface k).config = some d) (probe : d.probe = c.probe) : k = i := by
    have only := admitted c hc
    simp only [State.sftAdmits, Bool.and_eq_true, List.all_eq_true, decide_eq_true_eq] at only
    refine only.1.2 k ?_
    simp only [State.probeSurfaces, Tbl.indices, List.mem_filter]
    exact ⟨List.mem_finRange k, by simp only [State.surface] at hd; simp [hd, probe]⟩
  intro j k c d hc hd probe
  by_cases hj : j = i <;> by_cases hk : k = i
  · rw [hj, hk]
  · subst hj
    rw [t.setSurface_surface] at hc
    rw [t.setSurface_surface_ne r hk] at hd
    exact (alone c hc k d hd probe.symm).symm
  · subst hk
    rw [t.setSurface_surface] at hd
    rw [t.setSurface_surface_ne r hj] at hc
    exact alone d hd j c hc probe
  · rw [t.setSurface_surface_ne r hj] at hc
    rw [t.setSurface_surface_ne r hk] at hd
    exact unique j k c d hc hd probe

theorem State.Upholds.gradeChanged (i : Fin 64) (left : Grade) : s.Upholds (t.gradeChanged i left) := by
  unfold State.gradeChanged
  split
  · exact h
  · have counted : s.Upholds (t.setSurface i { t.surface i with changes := satInc (t.surface i).changes }) :=
      h.setSurface i _ rfl
    dsimp only
    split
    · exact ((counted.raise _).reencode _).evalCondense
    · exact (counted.reencode _).evalCondense

omit h in
theorem State.Upholds.regraded {i : Fin 64} {r : Surface} (stored : s.Upholds (t.setSurface i r)) (left : Grade) :
    s.Upholds (t.regrade i left r) := by
  unfold State.regrade
  dsimp only
  split
  · exact stored.gradeChanged i left
  · exact stored

theorem State.Upholds.regrade (i : Fin 64) (left : Grade) (r : Surface) (config : r.config = (t.surface i).config) :
    s.Upholds (t.regrade i left r) := (h.setSurface i r config).regraded left

theorem State.Upholds.storeSurface (i : Fin 64) (r : Surface)
    (admitted : ∀ c, r.config = some c → t.sftAdmits i c = true) : s.Upholds (t.storeSurface i r) := by
  have stored := h.setSurface_admitted i r admitted
  unfold State.storeSurface
  dsimp only
  split
  · exact (((stored.regraded _).reencodeOf _).reencodeOf _).evalCondense
  · exact ((stored.reencodeOf _).reencodeOf _).evalCondense

/-! ### The evaluation queue -/

theorem State.Upholds.setEvalQueue (q : List SampleJob)
    (sound : t.EvalQueueSound → q.length ≤ 32 ∧ (q.map SampleJob.sel).Nodup) : s.Upholds (t.setEvalQueue q) :=
  h.trans ((t.setEvalQueue_changes q).upholds (evalQueue := .inr sound))

end

/-! ### Downward queues -/

theorem PortRec.chooseTx_downward (r : PortRec) : r.chooseTx.downward.length ≤ r.downward.length := by
  unfold PortRec.chooseTx
  split
  · split
    · exact Nat.le_refl _
    · next queued => simp [queued]
    · exact Nat.le_refl _
  · exact Nat.le_refl _

theorem PortRec.joinDownward_downward (r : PortRec) (f : Frame) (short : r.downward.length ≤ 4) :
    (r.joinDownward f).downward.length ≤ 4 := by
  unfold PortRec.joinDownward
  split
  · next room =>
    have size : r.downward.length < 4 := room.2
    exact Nat.le_trans (PortRec.chooseTx_downward _) (by simpa using size)
  · exact short

theorem PortRec.floorSent_downward (r : PortRec) : r.floorSent.downward.length ≤ r.downward.length := by
  unfold PortRec.floorSent
  split
  · exact Nat.le_refl _
  · exact PortRec.chooseTx_downward _

theorem PortRec.handReply_downward (r : PortRec) (f : Frame) : (r.handReply f).downward.length ≤ r.downward.length := by
  unfold PortRec.handReply
  split
  · exact PortRec.chooseTx_downward _
  · exact Nat.le_refl _

theorem PortRec.goUp_downward (r : PortRec) : r.goUp.downward.length ≤ r.downward.length :=
  PortRec.chooseTx_downward _

theorem PortRec.takeSettings_downward (r : PortRec) : r.takeSettings.downward = r.downward := by
  unfold PortRec.takeSettings
  split <;> rfl

theorem PortRec.writeSettings_downward (r : PortRec) (w : Settings) (fromU : Bool) :
    (r.writeSettings w fromU).downward = r.downward := by
  unfold PortRec.writeSettings
  split <;> rfl

theorem PortRec.completeFrame_downward (r : PortRec) (chars : List RxChar) :
    (r.completeFrame chars).downward = r.downward := by
  unfold PortRec.completeFrame
  dsimp only
  split
  · rfl
  · split <;> rfl

theorem PortRec.assemble_downward (r : PortRec) (chars : List RxChar) : (r.assemble chars).downward = r.downward := by
  unfold PortRec.assemble
  split
  · rfl
  · split
    · rfl
    · split
      · exact r.completeFrame_downward chars
      · rfl

theorem PortRec.finishChar_downward (r : PortRec) (c : RxBits) : (r.finishChar c).downward = r.downward := by
  unfold PortRec.finishChar
  dsimp only
  split
  · split <;> rfl
  · exact PortRec.assemble_downward _ _
  · rfl
  · rfl

theorem PortRec.characterBegins_downward (r : PortRec) (p : Port) (l : LineChar) :
    (r.characterBegins p l).downward = r.downward := by
  unfold PortRec.characterBegins
  split <;> rfl

theorem PortRec.characterEnds_downward (r : PortRec) (p : Port) (l : LineChar) :
    (r.characterEnds p l).downward = r.downward := by
  unfold PortRec.characterEnds
  split
  · rfl
  · split
    · rfl
    · split
      · rfl
      · exact PortRec.finishChar_downward _ _

theorem PortRec.gapExpires_downward (r : PortRec) : r.gapExpires.downward = r.downward := by
  unfold PortRec.gapExpires
  split
  · rfl
  · split <;> rfl

theorem PortRec.breakSeen_downward (r : PortRec) (x : FloorLevel) : (r.breakSeen x).downward = r.downward := by
  unfold PortRec.breakSeen
  split <;> rfl

theorem PortRec.pulseEnds_downward (r : PortRec) (x : FloorLevel) : (r.pulseEnds x).downward = r.downward := by
  unfold PortRec.pulseEnds
  split
  · rfl
  · split
    · rfl
    · rfl
    all_goals
      split
      · rfl
      · exact PortRec.finishChar_downward _ _

end Sys2Proof.Machine
end

section
/-! PROOFS. The laws of the tables and the bounds under the surfaces, the forward queue, the zones, the engine, the
descriptor controller and the uplink (chapters 1, 3, 4, 5 and 9). -/

namespace Sys2Proof.Machine

section
variable {s t : State} (h : s.Upholds t)
include h

/-! ### Surfaces -/

theorem State.Upholds.evaluate (i : Fin 64) (part : Option (Int × Source)) : s.Upholds (t.evaluate i part) := by
  unfold State.evaluate
  dsimp only
  split
  · exact h
  · split
    · exact h.regrade i _ _ rfl
    · exact h.regrade i _ _ rfl

theorem State.Upholds.unconfirmed (i : Fin 64) : s.Upholds (t.unconfirmed i) := h.setSurface i _ rfl

theorem State.Upholds.wetted (i : Fin 64) : s.Upholds (t.wetted i) := h.regrade i _ _ rfl

theorem State.Upholds.probeLost (i : Fin 64) : s.Upholds (t.probeLost i) := h.regrade i _ _ rfl

theorem State.Upholds.wetnessArrival (sel : Selector) (w : Wet) : s.Upholds (t.wetnessArrival sel w) := by
  cases w with
  | water => exact h.foldl (fun u i => (State.Upholds.refl u).wetted i) _
  | dry => exact h.foldl (fun u i => (State.Upholds.refl u).unconfirmed i) _

theorem State.Upholds.probeNotice (kind : SensorKind) (sel : Selector) : s.Upholds (t.probeNotice kind sel) := by
  cases kind with
  | air => exact h
  | surface => exact h.foldl (fun u i => (State.Upholds.refl u).probeLost i) _
  | wetness => exact h.foldl (fun u i => (State.Upholds.refl u).unconfirmed i) _

/-! ### The forward queue -/

theorem State.Upholds.offerFq (f : Frame) : s.Upholds (t.offerFq f) := by
  refine h.updTurn _ ?_ fun short => Turn.offer_length short f
  unfold Turn.offer
  split <;> exact id

theorem State.Upholds.offerEnriched (sel : Selector) (payload : List Byte) (v : RefValue) :
    s.Upholds (t.offerEnriched sel payload v) := (h.offerFq _).updDesc _ _

theorem State.Upholds.forward (sel : Selector) (payload : List Byte) (v : RefValue) :
    s.Upholds (t.forward sel payload v) := by
  rcases t.forward_cases sel payload v with same | offered
  · rwa [same]
  · exact offered ▸ h.offerEnriched _ _ _

theorem State.Upholds.forwardReject (sel : Selector) (moved : Bool) : s.Upholds (t.forwardReject sel moved) := by
  rcases t.forwardReject_cases sel moved with same | ⟨_, _, offered⟩
  · rwa [same]
  · exact offered ▸ h.offerEnriched _ _ _

/-! ### Zones -/

omit h in
/-- An accumulation adds at most 15 for one more result (R2, R63). -/
theorem Zone.accumulate_light {r : Zone} (light : r.sw ≤ 15 * r.n) (w : Fin 16) (e : Nat) :
    (r.accumulate w.val e).sw ≤ 15 * (r.accumulate w.val e).n := by
  unfold Zone.accumulate
  split
  · exact light
  · split
    · exact light
    · dsimp only
      omega

theorem State.Upholds.accumulateAir (sel : Selector) (e : Nat) : s.Upholds (t.accumulateAir sel e) := by
  unfold State.accumulateAir
  split
  · exact h
  · exact h.setZone _ _ fun light => Zone.accumulate_light light _ _

theorem State.Upholds.closeZone (z : Fin 32) : s.Upholds (t.closeZone z) := by
  have closed : s.Upholds (t.setZone z ((t.zone z).close (t.zoneClose.get z).isSome)) :=
    h.setZone z _ fun _ => Nat.zero_le _
  unfold State.closeZone
  dsimp only
  split
  · exact closed
  · exact closed.changes (State.setZoneClose_changes _ _)

theorem State.Upholds.zoneDelivered (z : Fin 32) (e : Nat) (td : Int) : s.Upholds (t.zoneDelivered z e td) :=
  State.Upholds.changes (h.setZone z { t.zone z with result := .valid e td } id) (State.raiseZone_changes _ z)

/-! ### The engine -/

theorem State.Upholds.takeJob : s.Upholds t.takeJob := by
  unfold State.takeJob
  split
  · split
    · exact (h.changes (t.setZoneClose_changes _)).changes (State.setJob_changes _ _)
    · exact h.changes (t.setJob_changes _)
  · split
    · next q rest waiting =>
      refine State.Upholds.changes (h.setEvalQueue rest fun sound => ?_) (State.setJob_changes _ _)
      obtain ⟨short, apart⟩ := sound
      rw [waiting] at short apart
      exact ⟨Nat.le_of_succ_le short, (List.nodup_cons.mp apart).2⟩
    · exact h.changes (t.setJob_changes _)

theorem State.Upholds.takeIfIdle : s.Upholds t.takeIfIdle := by
  unfold State.takeIfIdle
  split
  · exact h.takeJob
  · exact h

omit h in
theorem coalesce_sel (q : List SampleJob) (j : SampleJob) : (coalesce q j).map SampleJob.sel = q.map SampleJob.sel := by
  rw [coalesce, List.map_map]
  refine List.map_congr_left fun x _ => ?_
  simp only [Function.comp_apply]
  split
  · next same => exact same.symm
  · rfl

theorem State.Upholds.offerJob (j : SampleJob) : s.Upholds (t.offerJob j) := by
  unfold State.offerJob
  split
  · refine State.Upholds.count (h.setEvalQueue _ fun sound => ?_) _
    rw [coalesce_sel]
    exact ⟨by simpa [coalesce] using sound.1, sound.2⟩
  · next fresh =>
    split
    · next room =>
      refine State.Upholds.takeIfIdle (h.setEvalQueue _ fun sound => ⟨?_, ?_⟩)
      · have size : t.evalQueue.length < 32 := room
        simpa using size
      · rw [List.map_append, List.nodup_append]
        refine ⟨sound.2, by simp, ?_⟩
        simp only [List.any_eq_true, decide_eq_true_eq, not_exists, not_and] at fresh
        simpa using fresh
    · exact (h.count _).updDesc _ _

theorem State.Upholds.discard : s.Upholds t.discard := h.count _

theorem State.Upholds.deliverAir (sel : Selector) (temp : Int) (rh : Nat) (clamped saturated : Bool)
    (gen version : BitVec 8) : s.Upholds (t.deliverAir sel temp rh clamped saturated gen version) := by
  unfold State.deliverAir
  dsimp only
  split
  · exact h.discard
  · exact ((h.updDesc _ _).accumulateAir _ _).forward _ _ _

theorem State.Upholds.deliverSurface (sel : Selector) (temp : Int) (version : BitVec 8) (binding : Option Binding) :
    s.Upholds (t.deliverSurface sel temp version binding) := by
  have delivered : s.Upholds (t.updDesc sel Descriptor.surfaceDelivered) := h.updDesc _ _
  unfold State.deliverSurface
  dsimp only
  split
  · exact h.discard
  · split
    · exact delivered.forward _ _ _
    · split
      · exact delivered.discard.forward _ _ _
      · exact (delivered.evaluate _ _).forward _ _ _

theorem State.Upholds.epochExpires : s.Upholds t.epochExpires :=
  have closed : s.Upholds (t.setEpochCount 0).closeZones :=
    (h.changes (t.setEpochCount_changes 0)).foldl (fun u z => (State.Upholds.refl u).closeZone z) _
  have reported := closed.takeIfIdle.changes (State.Changes.foldl State.raiseZone_changes _ _)
  reported.changes (State.flushSlots_changes _)

theorem State.Upholds.completeAir : s.Upholds t.completeAir := by
  unfold State.completeAir
  split
  · exact (h.deliverAir _ _ _ _ _ _ _).takeJob
  · exact h
  · exact h
  · exact h

theorem State.Upholds.completeSurface : s.Upholds t.completeSurface := by
  unfold State.completeSurface
  split
  · exact (h.deliverSurface _ _ _ _).takeJob
  · exact h
  · exact h
  · exact h

theorem State.Upholds.completeZone : s.Upholds t.completeZone := by
  unfold State.completeZone
  split
  · exact (h.zoneDelivered _ _ _).takeJob
  · exact h
  · exact h
  · exact h

/-! ### Samples -/

theorem State.Upholds.setDesc (sel : Selector) (d : Descriptor) : s.Upholds (t.setDesc sel d) :=
  h.changes (t.setDesc_changes sel d)

theorem State.Upholds.raiseSensor (sel : Selector) (left : SensorState) : s.Upholds (t.raiseSensor sel left) :=
  h.changes (t.raiseSensor_changes sel left)

theorem State.Upholds.raiseRecovery (sel : Selector) (before : Descriptor) : s.Upholds (t.raiseRecovery sel before) :=
  h.changes (t.raiseRecovery_changes sel before)

theorem State.Upholds.rejectSample (sel : Selector) (kind : SensorKind) : s.Upholds (t.rejectSample sel kind) := by
  have stored : s.Upholds (t.setDesc sel (t.desc sel).rejected) := h.setDesc _ _
  unfold State.rejectSample
  dsimp only
  split
  · exact ((stored.raiseSensor _ _).probeNotice _ _).forwardReject _ _
  · exact stored.forwardReject _ _

theorem State.Upholds.formatReject (sel : Selector) (kind : SensorKind) : s.Upholds (t.formatReject sel kind) :=
  (h.updDesc _ _).rejectSample sel kind

theorem State.Upholds.plausibilityReject (sel : Selector) (kind : SensorKind) :
    s.Upholds (t.plausibilityReject sel kind) := (h.updDesc _ _).rejectSample sel kind

theorem State.Upholds.acceptAir (sel : Selector) (temp : Int) (rh : Nat) (clamped saturated : Bool) :
    s.Upholds (t.acceptAir sel temp rh clamped saturated) :=
  ((h.setDesc sel _).raiseRecovery sel _).offerJob _

theorem State.Upholds.acceptSurface (sel : Selector) (temp : Int) (clamped : Bool) :
    s.Upholds (t.acceptSurface sel temp clamped) :=
  ((h.setDesc sel _).raiseRecovery sel _).offerJob _

theorem State.Upholds.acceptWetness (sel : Selector) (w : Wet) : s.Upholds (t.acceptWetness sel w) :=
  (((h.setDesc sel _).raiseRecovery sel _).wetnessArrival sel w).forward _ _ _

theorem State.Upholds.readingArrives (sel : Selector) (c : SensorConfig) (r : Raw) :
    s.Upholds (t.readingArrives sel c r) := by
  cases r with
  | air temp rh =>
    simp only [State.readingArrives]
    split
    · exact h.acceptAir _ _ _ _ _
    · exact h.plausibilityReject _ _
  | surface temp =>
    simp only [State.readingArrives]
    split
    · exact h.acceptSurface _ _ _
    · exact h.plausibilityReject _ _
  | wetness w => exact h.acceptWetness sel w

theorem State.Upholds.rawCopy (c : SensorConfig) (f : Frame) : s.Upholds (t.rawCopy c f) := by
  unfold State.rawCopy
  split
  · exact h.offerFq f
  · exact h

theorem State.Upholds.sampleArrives (sel : Selector) (f : Frame) : s.Upholds (t.sampleArrives sel f) := by
  unfold State.sampleArrives
  split
  · exact h.count _
  · dsimp only
    split
    · exact (h.rawCopy _ f).formatReject _ _
    · exact (h.rawCopy _ f).plausibilityReject _ _
    · exact (h.rawCopy _ f).readingArrives _ _ _

theorem State.Upholds.goStale (sel : Selector) : s.Upholds (t.goStale sel) := by
  unfold State.goStale
  dsimp only
  split
  · exact h
  · exact ((h.setDesc _ _).raiseSensor _ _).probeNotice _ _

theorem State.Upholds.storeDesc (sel : Selector) (c : Option SensorConfig) : s.Upholds (t.storeDesc sel c) := by
  have stored : s.Upholds ((t.setDesc sel ((t.desc sel).written c)).setEvalQueue
      (t.evalQueue.filter fun q => decide (q.sel ≠ sel))) :=
    (h.setDesc sel _).setEvalQueue _ fun sound =>
      ⟨Nat.le_trans (List.length_filter_le _ _) sound.1, sound.2.sublist (List.filter_sublist.map _)⟩
  unfold State.storeDesc
  dsimp only
  split
  · exact stored
  · exact stored.probeNotice _ _

/-! ### Commits on U -/

theorem State.Upholds.setSlot (i : Fin 16) (r : Slot) : s.Upholds (t.setSlot i r) := h.changes (t.setSlot_changes i r)

theorem State.Upholds.commitReply : s.Upholds t.commitReply := by
  refine h.updTurn_same _ ?_ ?_ ?_
  all_goals split <;> rfl

theorem State.Upholds.commitRelease : s.Upholds t.commitRelease := h.updTurn_same _

theorem State.Upholds.commitTurnReply (room : t.turn.sent < t.turn.budget) (r : Reply) (rest : List Reply) :
    s.Upholds (t.commitTurnReply r rest) := h.updTurn _ (fun bound => ⟨room, bound.2⟩) id

theorem State.Upholds.commitSlot (room : t.turn.sent < t.turn.budget) (i : Fin 16) : s.Upholds (t.commitSlot i) :=
  State.Upholds.updTurn (h.setSlot i _) _ (fun bound => ⟨room, bound.2⟩) id

theorem State.Upholds.commitForward (room : t.turn.sent < t.turn.budget) {f : Frame} {rest : List Frame}
    (queued : t.turn.fq = f :: rest) : s.Upholds (t.commitForward f rest) :=
  h.updTurn _ (fun bound => ⟨room, bound.2⟩) fun short => by
    rw [queued] at short
    exact Nat.le_of_succ_le short

theorem State.Upholds.commitQueued (room : t.turn.sent < t.turn.budget) : s.Upholds t.commitQueued := by
  unfold State.commitQueued
  split
  · split
    · exact h.commitForward room ‹_›
    · exact h.commitSlot room _
  · exact h.commitForward room ‹_›
  · exact h.commitSlot room _
  · exact h.commitRelease

/-- A frame opportunity commits a frame only where the budget leaves room (R159). -/
theorem State.Upholds.frameOpportunity : s.Upholds t.frameOpportunity := by
  unfold State.frameOpportunity
  split
  · exact h.commitRelease
  · next unspent =>
    have room := Nat.lt_of_not_le unspent
    split
    · exact h.commitTurnReply room _ _
    · exact h.commitQueued room

/-! ### GRANT and POLL -/

theorem State.Upholds.withdraw (c : Committed) : s.Upholds (t.withdraw c) := by
  have freed : s.Upholds (t.updTurn fun t => { t with withU := none }) := h.updTurn_same _
  unfold State.withdraw
  dsimp only
  split
  · exact freed.updTurn_same _
  · exact freed.setSlot _ _
  · refine freed.updTurn _ ?_ fun _ => Turn.takeBack_length _ _
    unfold Turn.takeBack
    split <;> exact id
  · exact freed

theorem State.Upholds.beginTurn {budget : Nat} (clamped : budget ≤ 16) (tag : Byte) :
    s.Upholds (t.beginTurn budget tag) := by
  have begun : s.Upholds (t.updTurn fun t =>
      { t with state := .turn, budget := budget, sent := 0, run := 0, tag := tag }) :=
    h.updTurn _ (fun _ => ⟨Nat.zero_le _, clamped⟩) id
  unfold State.beginTurn
  dsimp only
  split
  · exact begun.frameOpportunity
  · split
    · next first => exact begun.updTurn _ (fun bound => ⟨first.2, bound.2⟩) id
    · exact (begun.withdraw _).frameOpportunity

omit h in
theorem grantBudget_le (payload : List Byte) : grantBudget payload ≤ 16 := by
  cases payload with
  | nil => exact Nat.zero_le _
  | cons b rest => exact Nat.min_le_left _ _

theorem State.Upholds.endSilence : s.Upholds t.endSilence := by
  unfold State.endSilence
  split
  · exact ((h.updTurn_same _).raise _).evalCondense
  · exact h

theorem State.Upholds.takeGrant (f : Frame) : s.Upholds (t.takeGrant f) :=
  have counted : s.Upholds (t.updTurn fun t => { t with silence := 0 }) := h.updTurn_same _
  counted.endSilence.beginTurn (grantBudget_le _) _

theorem State.Upholds.joinReplies (f : Frame) (src : ReplySource) : s.Upholds (t.joinReplies f src) :=
  State.Upholds.commitReply (h.updTurn_same _)

theorem State.Upholds.handReply (p : Port) (f : Frame) (src : ReplySource) : s.Upholds (t.handReply p f src) := by
  cases p with
  | floor q => exact h.updPort _ _ fun r => Nat.le_trans (r.handReply_downward f)
  | u => exact h.joinReplies f src

theorem State.Upholds.pollSlot (f : Frame) (i : Fin 16) : s.Upholds (t.pollSlot f i) := by
  have status (st : Status) : s.Upholds (t.pollStatus f st) := h.joinReplies _ _
  have answered : s.Upholds (if (t.slot i).binding.inhibit then t.pollStatus f .deferred
      else (t.slotTaken i).joinReplies (t.reportFrame i f.env.tag) (.pollReport i)) := by
    split
    · exact status _
    · exact State.Upholds.joinReplies (h.setSlot i _) _ _
  unfold State.pollSlot
  split
  · exact answered
  · exact answered
  · exact status _
  · exact status _
  · exact status _

theorem State.Upholds.takePoll (f : Frame) : s.Upholds (t.takePoll f) := by
  unfold State.takePoll
  split
  · exact h.joinReplies _ _
  · split
    · exact h.pollSlot f _
    · exact h.joinReplies _ _

/-! ### Outcomes on U -/

theorem State.Upholds.uStarts : s.Upholds t.uStarts := by
  unfold State.uStarts
  dsimp only
  split
  · exact h
  · split
    · exact h.setPort _ _ id
    · exact h

theorem State.Upholds.replyEnds (src : ReplySource) : s.Upholds (t.replyEnds src) := by
  have freed : s.Upholds (t.updPort .u fun r => { r with owed := false, settingsReply := false }) :=
    h.updPort_same _ _ fun _ => rfl
  cases src with
  | mgmt => exact freed
  | restart => exact freed.changes (State.setDue_changes _ _)
  | pollReport i => exact h
  | pollStatus => exact h

theorem State.Upholds.afterSent : s.Upholds t.afterSent := by
  have listening : s.Upholds (t.updTurn fun t => { t with state := .listen }) := h.updTurn_same _
  unfold State.afterSent
  split
  · exact h
  · split
    · exact h.frameOpportunity
    · exact listening.commitReply
    · exact listening.commitReply

theorem State.Upholds.settleSent (src : TxSource) : s.Upholds (t.settleSent src) := by
  have slot (i : Fin 16) : s.Upholds (t.slotSent i).afterSent := State.Upholds.afterSent (h.setSlot i _)
  unfold State.settleSent
  split
  · exact slot _
  · exact (h.replyEnds _).afterSent
  · exact slot _
  · exact h.afterSent
  · exact State.Upholds.commitReply (h.updTurn_same _)

theorem State.Upholds.uSent : s.Upholds t.uSent := by
  have counted : s.Upholds (t.updPort .u fun r =>
      r.uReleased.counted fun k => { k with framesSent := satInc k.framesSent }) := h.updPort_same _ _ fun _ => rfl
  unfold State.uSent
  split
  · exact (counted.updTurn_same fun t => { t with withU := none }).settleSent _
  · exact h

theorem State.Upholds.settleCollision (src : TxSource) : s.Upholds (t.settleCollision src) := by
  unfold State.settleCollision
  split
  · exact h.changes (t.slotCollision_changes _)
  · exact h.replyEnds _
  · exact h.changes (t.slotCollision_changes _)
  · exact h.updTurn_same _
  · exact h

theorem State.Upholds.uCollides : s.Upholds t.uCollides := by
  unfold State.uCollides
  split
  · exact h
  · next c _ =>
    have released : s.Upholds (t.updPort .u PortRec.uReleased) := h.updPort_same _ _ fun _ => rfl
    have settled := (released.updTurn_same fun t =>
      { t with withU := none, state := .listen, collisions := satInc t.collisions }).settleCollision c.source
    dsimp only
    split
    · exact settled
    · exact settled.commitReply

end

end Sys2Proof.Machine
end

section
/-! PROOFS. The laws of the tables and the bounds under management, the router, reset and RESTART, and so under every
step (chapters 8, 10 and 11). -/

-- The text is compiled as a whole: side by side its proofs would need more threads than there is memory for.
set_option Elab.async false

namespace Sys2Proof.Machine

/-! ### Management -/

/-- A threshold set that is read is ordered (R79). -/
theorem readThrEntry_ordered {data : List Byte} {t : ThrSet} (read : readThrEntry data = some t) : t.Ordered := by
  unfold readThrEntry at read
  split at read
  · dsimp only at read
    split at read
    · next valid =>
      obtain rfl := Option.some.inj read
      simp only [ThrSet.valid, inRange, Bool.and_eq_true, decide_eq_true_eq] at valid
      simp only [ThrSet.Ordered]
      omega
    · cases read
  · cases read

/-- An entry for a record in use passes the checks of R80. -/
theorem State.checkSft_admits {s : State} {i : Fin 64} {data : List Byte} {r : Option SurfaceConfig}
    (read : s.checkSft i data = some r) (c : SurfaceConfig) (used : r = some c) : s.sftAdmits i c = true := by
  subst used
  unfold State.checkSft at read
  split at read
  · cases read
  · cases read
  · split at read
    · next admits =>
      obtain rfl := Option.some.inj (Option.some.inj read)
      exact admits
    · cases read

theorem State.writtenSurface_config (s : State) (i : Fin 64) (c : Option SurfaceConfig) :
    (s.writtenSurface i c).config = c := by
  cases c with
  | none => rfl
  | some c =>
    simp only [State.writtenSurface]
    split <;> rfl

theorem State.exchangedSurface_config (s : State) (i : Fin 64) (c : Option SurfaceConfig) :
    (s.exchangedSurface i c).config = c := by
  cases c with
  | none => rfl
  | some c => rfl

section
variable {s t : State} (h : s.Upholds t)
include h

section
variable {u : State} {data : List Byte}

theorem State.Upholds.writeDesc {sel : Selector} (ok : t.writeDesc sel data = .ok u) : s.Upholds u := by
  unfold State.writeDesc at ok
  split at ok
  · cases ok
  · obtain rfl := Except.ok.inj ok
    exact h.storeDesc _ _

theorem State.Upholds.writeSurface {i : Fin 64} (ok : t.writeSurface i data = .ok u) : s.Upholds u := by
  unfold State.writeSurface at ok
  split at ok
  · cases ok
  · next read =>
    obtain rfl := Except.ok.inj ok
    exact h.storeSurface i _ fun c used => State.checkSft_admits read c ((t.writtenSurface_config i _).symm.trans used)

theorem State.Upholds.exchangeSurface {i : Fin 64} (ok : t.exchangeSurface i data = .ok u) : s.Upholds u := by
  unfold State.exchangeSurface at ok
  split at ok
  · cases ok
  · next read =>
    obtain rfl := Except.ok.inj ok
    exact h.storeSurface i _ fun c used => State.checkSft_admits read c ((t.exchangedSurface_config i _).symm.trans used)

theorem State.Upholds.writeThrSet {i : Fin 8} (ok : t.writeThrSet i data = .ok u) : s.Upholds u := by
  unfold State.writeThrSet at ok
  split at ok
  · cases ok
  · next set read =>
    obtain rfl := Except.ok.inj ok
    refine h.trans ((t.setThr_changes _).upholds (thresholds := .inr fun ordered j => ?_))
    simp only [State.setThr_thr, Tbl.get_set]
    split
    · exact readThrEntry_ordered read
    · exact ordered j

theorem State.Upholds.writeZoneConfig {z : Fin 32} (ok : t.writeZoneConfig z data = .ok u) : s.Upholds u := by
  unfold State.writeZoneConfig at ok
  split at ok
  · cases ok
  · obtain rfl := Except.ok.inj ok
    exact h.setZone z _ id

theorem State.Upholds.giveSettings (w : Tbl 5 Settings) (arrival : Port) (i : Fin 5) :
    s.Upholds (t.giveSettings w arrival i) := by
  refine h.trans ((t.setPorts_changes _).upholds (downward := .inr fun bounded p => ?_))
  simp only [State.port, State.setPorts_ports, Tbl.get_set]
  split
  · next same => simpa [PortRec.writeSettings_downward, State.port, same] using bounded p
  · exact bounded p

theorem State.Upholds.writeLines {arrival : Port} (ok : t.writeLines arrival data = .ok u) : s.Upholds u := by
  unfold State.writeLines at ok
  split at ok
  · cases ok
  · obtain rfl := Except.ok.inj ok
    exact (h.changes (t.setConfig_changes _)).foldl (fun v i => (State.Upholds.refl v).giveSettings _ _ i) _

theorem State.Upholds.writeEntry {table : Table} {arrival : Port} {i : Byte}
    (ok : t.writeEntry table arrival i data = .ok u) : s.Upholds u := by
  cases table with
  | sdt => exact h.writeDesc ok
  | svtActive => cases ok
  | svtShadow => cases ok
  | sft =>
    simp only [State.writeEntry] at ok
    split at ok
    · exact h.writeSurface ok
    · cases ok
  | thr =>
    simp only [State.writeEntry] at ok
    split at ok
    · exact h.writeThrSet ok
    · cases ok
  | zone =>
    simp only [State.writeEntry] at ok
    split at ok
    · exact h.writeZoneConfig ok
    · cases ok
  | slot =>
    simp only [State.writeEntry] at ok
    split at ok
    · exact h.changes (State.writeSlotBinding_changes ok)
    · cases ok
  | config =>
    simp only [State.writeEntry] at ok
    split at ok
    · exact h.changes (State.writeEpoch_changes ok)
    · exact h.changes (State.writeSilence_changes ok)
    · exact h.writeLines ok
    · cases ok

theorem State.Upholds.exchangeEntry {table : Table} {i : Byte} {v : State × List Byte}
    (ok : t.exchangeEntry table i data = .ok v) : s.Upholds v.1 := by
  unfold State.exchangeEntry at ok
  split at ok
  · split at ok
    · exact h.exchangeSurface (Except.of_map_ok ok)
    · cases ok
  · split at ok
    · exact h.writeThrSet (Except.of_map_ok ok)
    · cases ok
  · cases ok

end

theorem State.Upholds.writeAnswer (p : Port) (level : Nat) (a : Args) : s.Upholds (t.writeAnswer p level a).1 := by
  rcases t.writeAnswer_cases p level a with same | ⟨table, ok⟩
  · rwa [same]
  · exact h.writeEntry ok

theorem State.Upholds.exchangeAnswer (level : Nat) (a : Args) : s.Upholds (t.exchangeAnswer level a).1 := by
  rcases t.exchangeAnswer_cases level a with same | ⟨table, v, ok, stored⟩
  · rwa [same]
  · exact stored ▸ h.exchangeEntry ok

/-- A load writes the shadow bank, which the fourth law does not speak of (R30). -/
theorem State.Upholds.loadAnswer (level : Nat) (a : Args) : s.Upholds (t.loadAnswer level a).1 := by
  have active : (t.loadAnswer level a).1.svt.active = t.svt.active := by
    unfold State.loadAnswer
    split_ifs <;> rfl
  exact h.trans ((t.loadAnswer_changes level a).upholds
    (active := .inr (by rw [State.ActiveRising, State.ActiveRising, active]; exact id)))

theorem State.Upholds.clear (target : Target) : s.Upholds (t.clear target) := by
  cases target with
  | counters =>
    have zeroed : s.Upholds (((t.setSdt (t.sdt.map fun d => { d with formatRejects := 0, plausibilityRejects := 0 })).setCounters
        .zero).setPorts (t.ports.map fun r => { r with count := .zero, router := .zero })) :=
      ((h.changes (t.setSdt_changes _)).changes (State.setCounters_changes _ _)).mapPorts _ fun _ => id
    exact State.Upholds.updTurn_same (zeroed.changes (State.setSlots_changes _ _))
      fun t => { t with collisions := 0, requestOverrun := 0, forwardDrop := 0 }
  | accessed => exact h.changes (t.setSdt_changes _)
  | slotFlags => exact h.changes (t.setSlots_changes _)
  | surfaceCounts =>
    refine h.trans ((t.setSurfaces_changes _).upholds (probes := .inr fun unique => ?_))
    simpa [State.ProbesUnique, State.surface] using unique
  | zoneFlags =>
    refine h.trans ((t.setZones_changes _).upholds (weights := .inr fun bounded => ?_))
    simpa [State.WeightsBounded, State.zone] using bounded
  | alarm => exact h.changes t.clearAlarm_changes

theorem State.Upholds.clearAnswer (level : Nat) (a : Args) : s.Upholds (t.clearAnswer level a).1 := by
  rcases t.clearAnswer_cases level a with same | ⟨target, cleared⟩
  · rwa [same]
  · exact cleared ▸ h.clear target

omit h in
theorem State.Upholds.serve {r : State × Answer} (kept : s.Upholds r.1) (q : Request) : s.Upholds (t.serve q r) :=
  kept.setMgmt _

theorem State.Upholds.take (q : Request) : s.Upholds (t.take q) := by
  have served (a : Answer) : s.Upholds (t.serve q (t, a)) := State.Upholds.serve h q
  unfold State.take
  split
  · exact served _
  · split
    · exact served _
    · exact served _
    · exact State.Upholds.serve (h.writeAnswer _ _ _) q
    · exact State.Upholds.serve (h.exchangeAnswer _ _) q
    · exact State.Upholds.serve (h.loadAnswer _ _) q
    · unfold State.beginCommit
      split
      · exact served _
      · exact h.setMgmt _
    · exact served _
    · exact State.Upholds.serve (h.clearAnswer _ _) q
    · unfold State.beginRestart
      split
      · exact served _
      · exact (h.setMgmt _).handReply _ _ _

theorem State.Upholds.request (p : Port) (f : Frame) : s.Upholds (t.request p f) := by
  unfold State.request
  split
  · exact h.take _
  · exact h.handReply _ _ _

theorem State.Upholds.serviceEnds : s.Upholds t.serviceEnds := by
  unfold State.serviceEnds
  split
  · exact (h.setMgmt _).handReply _ _ _
  · exact h

/-- The bank that a commit makes active has passed its check (R33). -/
theorem State.Upholds.commitEnds : s.Upholds t.commitEnds := by
  unfold State.commitEnds
  split
  · split
    · next passed =>
      have swapped : s.Upholds t.swapBanks :=
        h.trans ((t.setSvt_changes _).upholds (active := .inr fun _ => (Bank.failure_eq_none_iff _).mp passed))
      exact (swapped.setMgmt _).handReply _ _ _
    · exact (h.setMgmt _).handReply _ _ _
  · exact h

/-! ### The router -/

theorem State.Upholds.countRouter (p : Port) (f : RouterCounters → RouterCounters) : s.Upholds (t.countRouter p f) :=
  h.updPort_same p _ fun _ => rfl

theorem State.Upholds.routeSample (p : FloorPort) (f : Frame) : s.Upholds (t.routeSample p f) := by
  unfold State.routeSample
  split
  · exact h.countRouter _ _
  · exact h.sampleArrives _ _

theorem State.Upholds.routeNodeStatus (p : FloorPort) (f : Frame) : s.Upholds (t.routeNodeStatus p f) := by
  unfold State.routeNodeStatus
  split
  · exact h.countRouter _ _
  · split
    · exact h.offerFq f
    · exact h.count _

theorem State.Upholds.routeRequest (p : Port) (f : Frame) : s.Upholds (t.routeRequest p f) := by
  have owing : s.Upholds (t.updPort p fun r => { r with owed := true }) := h.updPort_same p _ fun _ => rfl
  unfold State.routeRequest
  split
  · split
    · exact h.countRouter _ _
    · exact h.updTurn_same _
  · exact owing.request p f

theorem State.Upholds.routeNodeCmd (f : Frame) : s.Upholds (t.routeNodeCmd f) :=
  h.foldl (fun u p => (State.Upholds.refl u).updPort (.floor p) _ fun r => r.joinDownward_downward f) _

theorem State.Upholds.routeFrame (p : Port) (f : Frame) : s.Upholds (t.routeFrame p f) := by
  cases p with
  | floor q =>
    simp only [State.routeFrame, State.routeFloor]
    split
    · exact h.routeSample q _
    · exact h.routeNodeStatus q _
    · exact h.routeRequest _ _
    · exact h.countRouter _ _
    · exact h.countRouter _ _
    all_goals exact h
  | u =>
    simp only [State.routeFrame, State.routeSupervisor]
    split
    · exact h
    · exact h.takeGrant f
    · exact h.takePoll f
    · exact h.routeNodeCmd f
    · exact h.routeRequest _ _
    · exact h.countRouter _ _
    · exact h.countRouter _ _
    all_goals exact h

end

/-! ### Reset, the supply and RESTART -/

/-- The laws that `State.Upholds` is about. -/
structure State.MeetsLaws (s : State) : Prop where
  active : s.ActiveRising
  thresholds : s.ThresholdsOrdered
  probes : s.ProbesUnique
  budget : s.WithinBudget
  weights : s.WeightsBounded
  evalQueue : s.EvalQueueSound
  downward : s.DownwardBounded
  forwardQueue : s.ForwardQueueBounded

theorem State.MeetsLaws.upholds {s t : State} (h : t.MeetsLaws) (pending : t.pending = s.pending) : s.Upholds t :=
  ⟨fun _ => h.active, fun _ => h.thresholds, fun _ => h.probes, fun _ => h.budget, fun _ => h.weights,
    fun _ => h.evalQueue, fun _ => h.downward, fun _ => h.forwardQueue, pending⟩

theorem State.Upholds.meetsLaws {s t : State} (h : s.Upholds t) (k : s.MeetsLaws) : t.MeetsLaws :=
  ⟨h.active k.active, h.thresholds k.thresholds, h.probes k.probes, h.budget k.budget, h.weights k.weights,
    h.evalQueue k.evalQueue, h.downward k.downward, h.forwardQueue k.forwardQueue⟩

/-- The power-on values meet every law (R27, R59, R75, R79, R99, R136, R170). -/
theorem State.powerOnValues_meetsLaws (pins : Pins) (unitNo : BitVec 4) (pending : List Instr) :
    (State.powerOnValues pins unitNo pending).MeetsLaws where
  active := (Bank.failure_eq_none_iff _).mp factoryTable_failure
  thresholds i := by
    have factory : (State.powerOnValues pins unitNo pending).thr.get i = .factory := Tbl.get_fill ThrSet.factory i
    rw [factory]
    simp [ThrSet.Ordered, ThrSet.factory]
  probes i j c d hc := by
    have unused : (State.powerOnValues pins unitNo pending).surface i = .powerOn := Tbl.get_fill Surface.powerOn i
    rw [unused] at hc
    cases hc
  budget := ⟨Nat.le_refl 0, Nat.zero_le 16⟩
  weights z := by
    have empty : (State.powerOnValues pins unitNo pending).zone z = .powerOn := Tbl.get_fill Zone.powerOn z
    rw [empty]
    exact Nat.zero_le _
  evalQueue := ⟨Nat.zero_le 32, List.nodup_nil⟩
  downward p := by rcases p with (_ | _ | _ | _) | _ <;> exact Nat.zero_le 4
  forwardQueue := Nat.zero_le 32

theorem State.upholds_powerOnValues (s : State) (pins : Pins) (unitNo : BitVec 4) :
    s.Upholds (State.powerOnValues pins unitNo s.pending) := (State.powerOnValues_meetsLaws _ _ _).upholds rfl

section
variable {s t : State} (h : s.Upholds t)
include h

theorem State.Upholds.raiseStart (warm : Bool) : s.Upholds (t.raiseStart warm) := h.raise _

theorem State.Upholds.raiseDark : s.Upholds t.raiseDark := h.changes t.raiseDark_changes

end

theorem State.powerUp_upholds (s : State) (straps : BitVec 3) : s.Upholds (s.powerUp straps) :=
  ((s.upholds_powerOnValues _ _).evalCondense.raiseStart false).raiseDark

theorem State.loseSupply_upholds (s : State) : s.Upholds s.loseSupply :=
  (s.upholds_powerOnValues _ _).changes (State.setPower_changes _ .unpowered)

/-- RESET leaves the tables, the turn's counts and every queue but the reply list (R191). -/
theorem State.enterReset_upholds (s : State) : s.Upholds s.enterReset where
  active := id
  thresholds := id
  probes := id
  budget := id
  weights := id
  evalQueue := id
  downward bounded p := by
    have quiet : s.enterReset.port p = (s.port p).quiet := Tbl.get_map _ _ _
    rw [quiet]
    exact bounded p
  forwardQueue := id
  pending := rfl

/-- A RESTART keeps the tables and empties the accumulators and queues (R185). -/
theorem State.restartValues_upholds (s : State) : s.Upholds s.restartValues where
  active := id
  thresholds := id
  probes unique i j := by
    have restarted (k : Fin 64) : (s.restartValues.surface k).config = (s.surface k).config := by
      simp [State.restartValues, State.surface, Surface.restarted]
    rw [restarted, restarted]
    exact unique i j
  budget _ := ⟨Nat.le_refl 0, Nat.zero_le 16⟩
  weights _ z := by
    have restarted : s.restartValues.zone z = (s.zone z).restarted := Tbl.get_map _ _ _
    rw [restarted]
    exact Nat.zero_le _
  evalQueue _ := ⟨Nat.zero_le 32, List.nodup_nil⟩
  downward _ p := by
    have restarted : s.restartValues.port p = (s.port p).restarted := Tbl.get_map _ _ _
    rw [restarted]
    exact Nat.zero_le 4
  forwardQueue _ := Nat.zero_le 32
  pending := rfl

theorem State.restartEffect_upholds (s : State) : s.Upholds s.restartEffect :=
  have encoded := s.restartValues_upholds.foldl (fun u z => (State.Upholds.refl u).reencode z) _
  (encoded.evalCondense.raiseStart true).raiseDark

/-! ### What is due -/

section
variable {s t : State} (h : s.Upholds t)
include h

theorem State.Upholds.takeSettings (p : Port) : s.Upholds (t.takeSettings p) :=
  h.updPort_same p _ PortRec.takeSettings_downward

theorem State.Upholds.settingsAll : s.Upholds t.settingsAll :=
  h.foldl (fun u p => (State.Upholds.refl u).takeSettings p) allPorts

theorem State.Upholds.routeBuffered (p : Port) : s.Upholds (t.routeBuffered p) := by
  have emptied : s.Upholds (t.updPort p fun r => { r with buffer := none }) := h.updPort_same p _ fun _ => rfl
  unfold State.routeBuffered
  split
  · exact h
  · exact emptied.routeFrame p _

theorem State.Upholds.restartIfDue : s.Upholds t.restartIfDue := by
  unfold State.restartIfDue
  split
  · exact h.trans t.restartEffect_upholds
  · exact h

theorem State.Upholds.epochIfDue : s.Upholds t.epochIfDue := by
  unfold State.epochIfDue
  split
  · exact h.epochExpires
  · exact h

theorem State.Upholds.enterSilent : s.Upholds t.enterSilent :=
  have silent : s.Upholds (t.updTurn fun t => { t with silent := true, silenceSeen := true }) := h.updTurn_same _
  ((silent.changes (State.setDue_changes _ _)).raise _).evalCondense

theorem State.Upholds.silenceIfDue : s.Upholds t.silenceIfDue := by
  unfold State.silenceIfDue
  split
  · exact h.enterSilent
  · exact h

theorem State.Upholds.settle : s.Upholds t.settle :=
  have routed : s.Upholds t.settingsAll.routeAll :=
    h.settingsAll.foldl (fun u p => (State.Upholds.refl u).routeBuffered p) allPorts
  have stale : s.Upholds t.settingsAll.routeAll.restartIfDue.staleAll :=
    routed.restartIfDue.foldl (fun u sel => (State.Upholds.refl u).goStale sel) _
  stale.epochIfDue.silenceIfDue.settingsAll

theorem State.Upholds.tick : s.Upholds t.tick := by
  have counted := (h.changes (t.setSdt_changes (t.sdt.map Descriptor.ticked))).changes
    (State.setEpochCount_changes _ (t.epochCount + 1))
  refine State.Upholds.changes (counted.updTurn_same Turn.ticked ?_ ?_ ?_) (State.setDue_changes _ _)
  all_goals
    unfold Turn.ticked
    split <;> rfl

/-! ### The lines -/

theorem State.Upholds.receiveChar (p : Port) (l : LineChar) (ended : Bool) : s.Upholds (t.receiveChar p l ended) := by
  unfold State.receiveChar
  split
  · refine h.updPort_same p _ fun r => ?_
    split
    · exact r.characterEnds_downward p l
    · exact r.characterBegins_downward p l
  · exact h

theorem State.Upholds.signalLost (p : FloorPort) : s.Upholds (t.signalLost p) := by
  unfold State.signalLost
  split
  · exact State.Upholds.raise (h.updPort _ PortRec.goDown fun _ _ => Nat.zero_le 4) _
  · exact h

theorem State.Upholds.signalBack (p : FloorPort) : s.Upholds (t.signalBack p) := by
  unfold State.signalBack
  split
  · exact h
  · exact State.Upholds.raise (h.updPort _ PortRec.goUp fun r => Nat.le_trans r.goUp_downward) _

end

/-! ### Every step -/

section
variable {s t : State}

theorem State.actOn_upholds {pin f : State → State} (pins : ∀ u : State, u.Changes (pin u) [.pins])
    (acts : ∀ u : State, u.Upholds (f u)) (stepped : s.actOn pin f = .next t) : s.Upholds t := by
  obtain rfl := Host.Outcome.next.inj stepped
  split
  · exact ((State.Upholds.refl s).settle.changes (pins _)).trans (acts _)
  · exact (State.Upholds.refl s).changes (pins s)

theorem State.act_upholds {f : State → State} (acts : ∀ u : State, u.Upholds (f u)) (stepped : s.act f = .next t) :
    s.Upholds t := State.actOn_upholds (fun u => .refl u _) acts stepped

theorem State.actDue_upholds {due : Bool} {f : State → State} (acts : s.Upholds (f s))
    (stepped : s.actDue due f = .next t) : s.Upholds t := by
  obtain rfl := Host.Outcome.next.inj stepped
  split
  · exact acts
  · exact .refl s

theorem State.actFrameAt_upholds {pin : State → State} (pins : ∀ u : State, u.Changes (pin u) [.pins]) {p : Port}
    {f : Frame} {row : FrameRow} (stepped : s.actFrameAt pin p f row = .next t) : s.Upholds t := by
  unfold State.actFrameAt at stepped
  refine State.actOn_upholds pins (fun u => ?_) stepped
  split
  · exact (State.Upholds.refl u).routeFrame p f
  · exact .refl u

theorem State.actFrame_upholds {p : Port} {f : Frame} {row : FrameRow} (stepped : s.actFrame p f row = .next t) :
    s.Upholds t := State.actFrameAt_upholds (fun u => .refl u _) stepped

theorem State.actRequest_upholds {p : Port} {row : RequestRow} {cmd table index : Byte} {r : MgmtOperand}
    (stepped : s.actRequest p row cmd table index r = .next t) : s.Upholds t :=
  State.actFrameAt_upholds (State.setCommission_changes _) stepped

/-- A step that changes one port by a function that leaves its downward queue. -/
theorem State.actPort_upholds {p : Port} {f : PortRec → PortRec} (same : ∀ r : PortRec, (f r).downward = r.downward)
    (stepped : (s.act fun u => u.updPort p f) = .next t) : s.Upholds t :=
  State.act_upholds (fun u => (State.Upholds.refl u).updPort_same p f same) stepped

theorem exec_upholds (c : Instr) (stepped : exec c s = .next t) : s.Upholds t := by
  cases c with
  | resetAsserted =>
    obtain rfl := Host.Outcome.next.inj stepped
    exact s.enterReset_upholds
  | powerOn straps =>
    obtain rfl := Host.Outcome.next.inj stepped
    exact s.powerUp_upholds straps
  | supplyRemoved =>
    obtain rfl := Host.Outcome.next.inj stepped
    exact s.loseSupply_upholds
  | secondsTick => exact State.act_upholds (fun u => (State.Upholds.refl u).tick) stepped
  | stalenessExpiry sel =>
    rw [exec_stalenessExpiry] at stepped
    exact State.actDue_upholds ((State.Upholds.refl s).goStale sel) stepped
  | epochExpiry => exact State.actDue_upholds (State.Upholds.refl s).epochExpires stepped
  | silenceEntry => exact State.actDue_upholds (State.Upholds.refl s).enterSilent stepped
  | restartTakesEffect => exact State.actDue_upholds s.restartEffect_upholds stepped
  | settingsTakeEffect p =>
    rw [exec_settingsTakeEffect] at stepped
    exact State.actDue_upholds ((State.Upholds.refl s).takeSettings p) stepped
  | losAsserted p =>
    exact State.actOn_upholds (State.setLos_changes p true) (fun u => (State.Upholds.refl u).signalLost p) stepped
  | losReleased p =>
    exact State.actOn_upholds (State.setLos_changes p false) (fun u => (State.Upholds.refl u).signalBack p) stepped
  | characterReceived p l ended commission =>
    exact State.actOn_upholds (State.setCommission_changes commission)
      (fun u => (State.Upholds.refl u).receiveChar p l ended) stepped
  | gapTimeout p => exact State.actPort_upholds PortRec.gapExpires_downward stepped
  | breakRecognised x => exact State.actPort_upholds (fun r => r.breakSeen_downward x) stepped
  | breakEnd x => exact State.actPort_upholds (fun r => r.pulseEnds_downward x) stepped
  | floorFrameSent p =>
    exact State.act_upholds
      (fun u => (State.Upholds.refl u).updPort _ _ fun r => Nat.le_trans r.floorSent_downward) stepped
  | uTransmitStart => exact State.act_upholds (fun u => (State.Upholds.refl u).uStarts) stepped
  | uFrameSent => exact State.act_upholds (fun u => (State.Upholds.refl u).uSent) stepped
  | collision pos back =>
    rw [exec_collision] at stepped
    refine State.act_upholds (fun u => ?_) stepped
    split
    · exact (State.Upholds.refl u).uCollides
    · exact .refl u
  | airJobCompletion => exact State.act_upholds (fun u => (State.Upholds.refl u).completeAir) stepped
  | surfaceJobCompletion => exact State.act_upholds (fun u => (State.Upholds.refl u).completeSurface) stepped
  | zoneJobCompletion => exact State.act_upholds (fun u => (State.Upholds.refl u).completeZone) stepped
  | commitCheckCompletion => exact State.act_upholds (fun u => (State.Upholds.refl u).commitEnds) stepped
  | serviceCompletion => exact State.act_upholds (fun u => (State.Upholds.refl u).serviceEnds) stepped
  | foreignFrameIgnored | sample | nodeStatus | nodeCmd | misdirectedFrame | unknownKindFrame | grant | poll =>
    exact State.actFrame_upholds stepped
  | malformedRequest p e commission payload =>
    exact State.actFrameAt_upholds (State.setCommission_changes commission) stepped
  | read | writeSdt | writeSft | exchangeSft | writeThr | exchangeThr | writeZone | writeSlot | writeEpochLength
  | writeSilenceLimit | writeLineSettings | svtLoad | svtCommit | querySensor | querySurface | queryZone | querySlot
  | queryPort | queryUnit | clearCounters | clearAccessed | clearSlotFlags | clearSurfaceCounts | clearZoneFlags
  | clearAlarm | restart =>
    exact State.actRequest_upholds stepped

/-- What a step takes off the queue no law reads: the step upholds the laws, up to the queue of commands. -/
theorem step_upholds (stepped : step s = .next t) : ∃ rest, (s.setPending rest).Upholds t := by
  unfold step at stepped
  split at stepped
  · obtain rfl := Host.Outcome.next.inj stepped
    exact ⟨s.pending, .refl s⟩
  · next c rest _ => exact ⟨rest, exec_upholds c stepped⟩

/-- Every command goes on to a next state. -/
theorem exec_next (c : Instr) (s : State) : ∃ t, exec c s = .next t := by
  cases c <;> exact ⟨_, rfl⟩

end

/-- Settles O55: a WRITE or EXCHANGE stores what its check admits, and a commit makes active what its check passes. -/
theorem stepsKeepTheTableLaws : Obligations.StepsKeepTheTableLaws := by
  unfold Obligations.StepsKeepTheTableLaws
  refine ⟨fun s t law stepped => ?_, fun s t law stepped => ?_, fun s t law stepped => ?_⟩
  all_goals obtain ⟨rest, upheld⟩ := step_upholds stepped
  · exact upheld.active law
  · exact upheld.thresholds law
  · exact upheld.probes law

/-- Settles O56: every operation that adds to a queue or to a count looks for room first. -/
theorem stepsKeepTheBounds : Obligations.StepsKeepTheBounds := by
  unfold Obligations.StepsKeepTheBounds
  refine ⟨fun s t law stepped => ?_, fun s t law stepped => ?_, fun s t law stepped => ?_, fun s t law stepped => ?_,
    fun s t law stepped => ?_⟩
  all_goals obtain ⟨rest, upheld⟩ := step_upholds stepped
  · exact upheld.budget law
  · exact upheld.weights law
  · exact upheld.evalQueue law
  · exact upheld.downward law
  · exact upheld.forwardQueue law

/-- Settles O1: no operation of a step touches the queue of commands. -/
theorem stepTakesTheFrontCommand : Obligations.StepTakesTheFrontCommand := by
  unfold Obligations.StepTakesTheFrontCommand
  refine ⟨fun s idle => by simp [step, idle], fun s c rest queued => ?_, fun c s => ?_⟩
  · simp only [step, queued]
    rfl
  · obtain ⟨t, stepped⟩ := exec_next c s
    exact ⟨t, stepped, (exec_upholds c stepped).pending⟩

end Sys2Proof.Machine
end

section
/-! PROOFS. Power-on, reset and the supply: where the START event goes, what the LINK_LOST events of dark ports leave, and
what a part that does not run does with a command (chapter 11, R117, R136, R190, R191). -/

-- The text is compiled as a whole: side by side its proofs would need more threads than there is memory for.
set_option Elab.async false

namespace Sys2Proof.Machine

/-! ### The power-on values -/

section
variable (pins : Pins) (unitNo : BitVec 4) (pending : List Instr)

theorem State.powerOnValues_surface (i : Fin 64) :
    (State.powerOnValues pins unitNo pending).surface i = .powerOn := Tbl.get_fill Surface.powerOn i

theorem State.powerOnValues_slot (i : Fin 16) : (State.powerOnValues pins unitNo pending).slot i =
    if i = 15 then { Slot.idle with binding := .slot15, state := .empty } else Slot.idle := by
  have slots : (State.powerOnValues pins unitNo pending).slot i = slotsPowerOn.get i := rfl
  simp only [slots, slotsPowerOn, Tbl.get_set, Tbl.get_fill, eq_comm]

/-- With no record in use and the latch and SILENT clear the line is released (R189, R191). -/
theorem State.powerOnValues_evalCondense :
    (State.powerOnValues pins unitNo pending).evalCondense = State.powerOnValues pins unitNo pending := by
  have none (gs : List Grade) : (State.powerOnValues pins unitNo pending).anySurface gs = false := by
    rw [Bool.eq_false_iff, Ne, State.anySurface_iff]
    rintro ⟨i, used, -⟩
    exact used (by rw [State.powerOnValues_surface]; rfl)
  have released : (State.powerOnValues pins unitNo pending).condenseDue = false := by
    simp only [State.condenseDue, none, Bool.or_false, Bool.false_or, Bool.and_false]
    rfl
  rw [State.evalCondense, released]
  rfl

/-- Without a descriptor and a record the START event says so (R102, R117). -/
theorem State.powerOnValues_tablesEmpty : (State.powerOnValues pins unitNo pending).tablesEmpty = true := by
  have all {n : Nat} {α : Type} (v : α) (test : α → Bool) (passes : test v = true) :
      (Tbl.fill n v).cells.all test = true :=
    List.all_eq_true.mpr fun x found => List.eq_of_mem_replicate found ▸ passes
  exact Bool.and_eq_true_iff.mpr ⟨all Descriptor.powerOn _ rfl, all Surface.powerOn _ rfl⟩

end

/-! ### The START event -/

/-- Slot 15 with the COLD START event of a unit (R117). -/
def Slot.coldStart (unitNo : BitVec 4) : Slot :=
  { Slot.idle with binding := .slot15, state := .pending, entries := [.start unitNo false 0 true] }

theorem Slot.idle_accepts (e : Event) : Slot.idle.accepts e = false := by simp [Slot.accepts, Slot.idle]

/-- The COLD START event takes the one slot that accepts it (R117, R191). -/
theorem State.powerOnValues_started (pins : Pins) (unitNo : BitVec 4) (pending : List Instr) :
    (State.powerOnValues pins unitNo pending).evalCondense.raiseStart false =
      (State.powerOnValues pins unitNo pending).setSlot 15 (Slot.coldStart unitNo) := by
  have last : (State.powerOnValues pins unitNo pending).slot 15 =
      { Slot.idle with binding := .slot15, state := .empty } := State.powerOnValues_slot pins unitNo pending 15
  have others (e : Event) (j : Fin 16) (h : j ≠ 15) :
      ((State.powerOnValues pins unitNo pending).slot j).accepts e = false := by
    rw [State.powerOnValues_slot, if_neg h]
    exact Slot.idle_accepts e
  rw [State.powerOnValues_evalCondense, State.raiseStart, State.powerOnValues_tablesEmpty]
  have placed := State.raise_of_room (s := State.powerOnValues pins unitNo pending) (i := 15)
    (e := .start unitNo false 0 true)
    (fun j => by
      by_cases h : j = 15
      · subst h
        rw [last, Bool.and_eq_false_iff]
        exact .inr rfl
      · rw [others _ j h, Bool.false_and])
    (by rw [last, Slot.accepts_iff]; exact ⟨by simp, (by decide : BitVec.getLsbD 24#5 4 = true), BitVec.and_zero⟩)
    (by rw [last]; rfl)
    (fun j h => by rw [others _ j (Fin.ne_of_lt h), Bool.false_and])
  rw [last] at placed
  exact placed

/-- The reset state is the power-on sequence with straps 0 and every pin released (log 6). -/
theorem State.reset_eq_started :
    State.reset = (State.powerOnValues .released 1 []).evalCondense.raiseStart false :=
  (State.powerOnValues_started .released 1 []).symm

/-! ### LINK_LOST at dark ports -/

/-- Only slot 15 is bound, and it holds the COLD START event alone: a LINK event finds no place (R106). -/
theorem State.raise_link_of_coldStart {s : State} {unitNo : BitVec 4} (last : s.slot 15 = Slot.coldStart unitNo)
    (idle : ∀ i : Fin 16, i ≠ 15 → s.slot i = Slot.idle) (p : Fin 5) (c : LinkCode) :
    s.raise (.link p c) = s.count fun k => { k with reportLoss := satInc k.reportLoss } := by
  have full (test : Slot → Bool) (started : test (Slot.coldStart unitNo) = false) (j : Fin 16) :
      ((s.slot j).accepts (.link p c) && test (s.slot j)) = false := by
    by_cases h : j = 15
    · rw [h, last, started, Bool.and_false]
    · rw [idle j h, Slot.idle_accepts, Bool.false_and]
  exact State.raise_of_full (full (fun r => r.holds (.link p c)) rfl) (full Slot.canTake rfl)

/-- The LINK_LOST events of the dark ports among some, where none finds a place (R136, R191). -/
theorem State.foldl_raiseDark {unitNo : BitVec 4} (l : List FloorPort) (s : State)
    (last : s.slot 15 = Slot.coldStart unitNo) (idle : ∀ i : Fin 16, i ≠ 15 → s.slot i = Slot.idle)
    (room : s.counters.reportLoss + l.length ≤ 65535) :
    l.foldl (fun s p => if (s.port (.floor p)).up then s else s.raise (.link (floorIdx p).castSucc .lost)) s =
      s.count fun k =>
        { k with reportLoss := k.reportLoss + (l.filter fun p => !(s.port (.floor p)).up).length } := by
  induction l generalizing s with
  | nil => rfl
  | cons p l ih =>
    rw [List.length_cons] at room
    rw [List.foldl_cons, List.filter_cons]
    by_cases up : (s.port (.floor p)).up = true
    · simp only [up, if_true, Bool.not_true, Bool.false_eq_true, if_false]
      exact ih s last idle (by omega)
    · have one : satInc s.counters.reportLoss = s.counters.reportLoss + 1 := by unfold satInc; omega
      rw [if_neg up, State.raise_link_of_coldStart last idle,
        ih (s.count fun k => { k with reportLoss := satInc k.reportLoss }) last idle (by
          show satInc s.counters.reportLoss + l.length ≤ 65535
          omega)]
      simp only [up, Bool.not_false, if_true, List.length_cons, State.count, State.setCounters, one]
      have same (q : Port) : State.port { s with counters := { s.counters with
        reportLoss := s.counters.reportLoss + 1 } } q = s.port q := rfl
      simp only [same, Nat.add_assoc, Nat.add_comm 1]

/-- The power-on sequence: the values, the COLD START event, and one lost event for each dark port (R191). -/
theorem State.powerUp_eq (s : State) (straps : BitVec 3) :
    s.powerUp straps =
      ((State.powerOnValues s.pins (straps.setWidth 4 + 1) s.pending).setSlot 15
        (Slot.coldStart (straps.setWidth 4 + 1))).count fun k =>
          { k with reportLoss := (floorPorts.filter fun q => s.pins.los.get (floorIdx q)).length } := by
  have dark (q : FloorPort) : ((State.powerOnValues s.pins (straps.setWidth 4 + 1) s.pending).port (.floor q)).up =
      !s.pins.los.get (floorIdx q) := by
    have record : (State.powerOnValues s.pins (straps.setWidth 4 + 1) s.pending).port (.floor q) =
      PortRec.powerOn (.floor q) (s.pins.los.get (floorIdx q)) := by cases q <;> rfl
    rw [record]
    cases s.pins.los.get (floorIdx q) <;> rfl
  rw [State.powerUp, State.powerOnValues_started, State.raiseDark,
    State.foldl_raiseDark floorPorts _ (State.setSlot_slot _ 15 _)
      (fun i h => by rw [State.setSlot_slot_ne _ _ h, State.powerOnValues_slot, if_neg h])
      (by show 0 + 4 ≤ 65535; decide)]
  have ports (q : FloorPort) : (((State.powerOnValues s.pins (straps.setWidth 4 + 1) s.pending).setSlot 15
    (Slot.coldStart (straps.setWidth 4 + 1))).port (.floor q)).up = !s.pins.los.get (floorIdx q) := dark q
  simp only [ports, Bool.not_not]
  simp only [State.count, State.setCounters]
  congr 2
  exact Nat.zero_add _

/-- Settles O4: the sequence is the values with one slot and one counter changed. -/
theorem powerOnRunsTheSequence : Obligations.PowerOnRunsTheSequence := by
  unfold Obligations.PowerOnRunsTheSequence
  intro straps s
  refine ⟨_, exec_powerOn straps s, ?_⟩
  rw [State.powerUp_eq]
  refine ⟨rfl, rfl, rfl, rfl, fun q => by cases q <;> rfl, rfl, State.setSlot_slot _ 15 _, fun i h => ?_, rfl, ?_⟩
  · rw [State.reset_slot_of_ne_fifteen h]
    exact (State.setSlot_slot_ne _ _ h).trans (by rw [State.powerOnValues_slot, if_neg h])
  · intro f apart
    cases f
    case unitNo | pins | ports | slots | counters | pending => exact absurd (by decide) apart
    all_goals rfl

/-! ### Reset -/

/-- Settles O3: every table of the reset state is a fill or is written out. -/
theorem resetLeavesPowerOnValues : Obligations.ResetLeavesPowerOnValues := by
  unfold Obligations.ResetLeavesPowerOnValues
  refine ⟨⟨rfl, rfl, rfl, rfl⟩, ⟨rfl, rfl, Tbl.get_fill none⟩, Tbl.get_fill Zone.powerOn,
    Tbl.get_fill Surface.powerOn, Tbl.get_fill ThrSet.factory,
    ⟨State.reset_slot_fifteen, fun i h => State.reset_slot_of_ne_fifteen h⟩, fun p => ?_, rfl, ⟨rfl, rfl, rfl, rfl⟩,
    rfl, rfl, rfl, rfl, rfl⟩
  rcases p with (_ | _ | _ | _) | _ <;> rfl

/-- Settles O60: the power-on values meet every law, and the START event is placed without harm to one. -/
theorem resetMeetsTheLaws : Obligations.ResetMeetsTheLaws := by
  unfold Obligations.ResetMeetsTheLaws
  let values := State.powerOnValues .released 1 []
  have placed : State.reset = values.evalCondense.raiseStart false := State.reset_eq_started
  have laws : State.reset.MeetsLaws := placed ▸
    State.Upholds.meetsLaws ((State.Upholds.refl values).evalCondense.raiseStart false)
      (State.powerOnValues_meetsLaws _ _ _)
  have keeps : values.evalCondense.Keeps State.reset := placed ▸ (State.Keeps.refl _).raiseStart false
  have worst (z : Fin 32) : values.evalCondense.WorstAt z :=
    values.evalCondense_changes.worstAt (by decide) (by decide) (State.powerOnValues_worstAt _ _ _ z)
  have pads : values.evalCondense.PadsObeyed :=
    (State.powerOnValues_padsObeyed _ _ _).changes values.evalCondense_changes
  have subjects : values.evalCondense.SubjectsUnique :=
    (State.powerOnValues_subjectsUnique _ _ _).changes values.evalCondense_changes (by decide)
  refine ⟨laws.active, laws.thresholds, laws.probes, laws.budget, laws.weights, laws.evalQueue, laws.downward,
    laws.forwardQueue, keeps.line values.evalCondense_condenseFollows, ?_, placed ▸ subjects.raise _,
    (State.worstEncoded_iff _).mpr fun z => keeps.worst z (worst z)⟩
  exact placed ▸ pads.changes (State.raise_changes _ _)

/-! ### A part that does not run -/

section
variable {s t : State} (stopped : s.power ≠ .running)
include stopped

theorem State.actOn_onlyPins {pin f : State → State} (pins : s.Changes (pin s) [.pins])
    (stepped : s.actOn pin f = .next t) : s.Changes t [.pins] := by
  rw [State.actOn_stopped stopped] at stepped
  obtain rfl := Host.Outcome.next.inj stepped
  exact pins

theorem State.act_onlyPins {f : State → State} (stepped : s.act f = .next t) : s.Changes t [.pins] :=
  State.actOn_onlyPins (pin := id) stopped (.refl s _) stepped

theorem State.actDue_onlyPins {due : Bool} {f : State → State} (stepped : s.actDue due f = .next t) :
    s.Changes t [.pins] := by
  obtain rfl := Host.Outcome.next.inj stepped
  simpa [State.running, stopped] using State.Changes.refl s _

theorem State.actFrameAt_onlyPins {pin : State → State} (pins : s.Changes (pin s) [.pins]) {p : Port} {f : Frame}
    {row : FrameRow} (stepped : s.actFrameAt pin p f row = .next t) : s.Changes t [.pins] := by
  rw [State.actFrameAt_stopped stopped] at stepped
  obtain rfl := Host.Outcome.next.inj stepped
  exact pins

theorem State.actRequest_onlyPins {p : Port} {row : RequestRow} {cmd table index : Byte} {r : MgmtOperand}
    (stepped : s.actRequest p row cmd table index r = .next t) : s.Changes t [.pins] :=
  State.actFrameAt_onlyPins stopped (State.setCommission_changes _ s) stepped

theorem State.actFrame_onlyPins {p : Port} {f : Frame} {row : FrameRow} (stepped : s.actFrame p f row = .next t) :
    s.Changes t [.pins] := State.actFrameAt_onlyPins (pin := id) stopped (.refl s _) stepped

/-- Held in reset or without supply, the part only follows its pins: every command but the three of the supply and the
RESET pin is a step of the running part, or waits for something due (log 17). -/
theorem exec_stopped (c : Instr) (on : ∀ straps, c ≠ .powerOn straps) (reset : c ≠ .resetAsserted)
    (off : c ≠ .supplyRemoved) (stepped : exec c s = .next t) : s.Changes t [.pins] := by
  cases c with
  | resetAsserted => exact absurd rfl reset
  | powerOn straps => exact absurd rfl (on straps)
  | supplyRemoved => exact absurd rfl off
  | stalenessExpiry sel =>
    rw [exec_stalenessExpiry] at stepped
    exact State.actDue_onlyPins stopped stepped
  | settingsTakeEffect p =>
    rw [exec_settingsTakeEffect] at stepped
    exact State.actDue_onlyPins stopped stepped
  | epochExpiry | silenceEntry | restartTakesEffect =>
    exact State.actDue_onlyPins stopped stepped
  | losAsserted p =>
    rw [exec_losAsserted] at stepped
    exact State.actOn_onlyPins stopped (State.setLos_changes p true s) stepped
  | losReleased p =>
    rw [exec_losReleased] at stepped
    exact State.actOn_onlyPins stopped (State.setLos_changes p false s) stepped
  | characterReceived _ _ _ level =>
    rw [exec_characterReceived] at stepped
    exact State.actOn_onlyPins stopped (State.setCommission_changes level s) stepped
  | malformedRequest _ _ level =>
    exact State.actFrameAt_onlyPins stopped (State.setCommission_changes level s) stepped
  | secondsTick | uTransmitStart | uFrameSent | airJobCompletion | surfaceJobCompletion | zoneJobCompletion
  | commitCheckCompletion | serviceCompletion =>
    exact State.act_onlyPins stopped stepped
  | gapTimeout | breakRecognised | breakEnd | floorFrameSent | collision =>
    simp only [exec_gapTimeout, exec_breakRecognised, exec_breakEnd, exec_floorFrameSent, exec_collision] at stepped
    exact State.act_onlyPins stopped stepped
  | foreignFrameIgnored | sample | nodeStatus | nodeCmd | misdirectedFrame | unknownKindFrame | grant | poll =>
    exact State.actFrame_onlyPins stopped stepped
  | read | writeSdt | writeSft | exchangeSft | writeThr | exchangeThr | writeZone | writeSlot | writeEpochLength
  | writeSilenceLimit | writeLineSettings | svtLoad | svtCommit | querySensor | querySurface | queryZone | querySlot
  | queryPort | queryUnit | clearCounters | clearAccessed | clearSlotFlags | clearSurfaceCounts | clearZoneFlags
  | clearAlarm | restart =>
    exact State.actRequest_onlyPins stopped stepped

end

theorem State.enterReset_stopped (s : State) : s.enterReset.power ≠ .running := by
  simp only [State.enterReset]
  split <;> simp

theorem State.enterReset_port (s : State) (p : Port) : s.enterReset.port p = (s.port p).quiet := Tbl.get_map _ _ _

/-- In reset no port has a frame in assembly (R191). -/
theorem PortRec.quiet_not_assembling (r : PortRec) (chars : List RxChar) : r.quiet.rx ≠ .assembling chars := by
  simp only [PortRec.quiet]
  split <;> simp

/-- A part that does not run drives neither the CONDENSE line nor U (R190). -/
theorem State.outputs_of_stopped {s : State} (stopped : s.power ≠ .running) :
    s.condensePin = false ∧ s.udir = false := by
  simp [State.condensePin, State.udir, State.running, stopped]

/-- Settles O5: neither RESET nor the loss of supply leaves the part running. -/
theorem resetAndSupplyLossStopThePart : Obligations.ResetAndSupplyLossStopThePart := by
  unfold Obligations.ResetAndSupplyLossStopThePart
  refine fun s => ⟨fun stopped c on reset off => ?_, ?_, ?_⟩
  · obtain ⟨t, stepped⟩ := exec_next c s
    exact ⟨t, stepped, exec_stopped stopped c on reset off stepped⟩
  · obtain ⟨condense, udir⟩ := State.outputs_of_stopped s.enterReset_stopped
    refine ⟨_, exec_resetAsserted s, s.enterReset_stopped, rfl, rfl, rfl, rfl, rfl, rfl, rfl, fun p => ?_, condense, udir,
      fun f apart => ?_⟩
    · rw [s.enterReset_port]
      exact ⟨rfl, rfl, rfl, PortRec.quiet_not_assembling _, rfl, rfl⟩
    · cases f
      case power | ports | job | mgmt | turn | condense | due => exact absurd (by decide) apart
      all_goals rfl
  · obtain ⟨condense, udir⟩ := State.outputs_of_stopped (s := s.loseSupply) (by simp [State.loseSupply])
    exact ⟨_, exec_supplyRemoved s, rfl, condense, udir⟩

end Sys2Proof.Machine
end

section
/-! PROOFS. What is told of a step: the report block under a list of events, and the GRADE events of the records that a
step regrades, in ascending order (R96, R97, R101 to R108; log 9). -/

-- The text is compiled as a whole: side by side its proofs would need more threads than there is memory for.
set_option Elab.async false

namespace Sys2Proof.Machine

/-! ### Equal reports -/

theorem State.SameReports.refl (s : State) : s.SameReports s := ⟨rfl, rfl, rfl⟩

theorem State.SameReports.trans {s t u : State} (h : s.SameReports t) (k : t.SameReports u) : s.SameReports u :=
  ⟨k.1.trans h.1, k.2.1.trans h.2.1, k.2.2.trans h.2.2⟩

theorem State.SameReports.symm {s t : State} (h : s.SameReports t) : t.SameReports s :=
  ⟨h.1.symm, h.2.1.symm, h.2.2.symm⟩

/-- A change of none of the report block's fields leaves the reports. -/
theorem State.Changes.sameReports {s t : State} {fs : List Field} (h : s.Changes t fs)
    (slots : .slots ∉ fs := by decide) (counters : .counters ∉ fs := by decide)
    (alarmLoss : .alarmLoss ∉ fs := by decide) : s.SameReports t :=
  ⟨h.same .slots slots, h.same .counters counters, h.same .alarmLoss alarmLoss⟩

theorem State.SameReports.loseEvent {s t : State} (h : s.SameReports t) (e : Event) :
    (s.loseEvent e).SameReports (t.loseEvent e) := by
  obtain ⟨slots, counters, alarmLoss⟩ := h
  refine ⟨?_, ?_, ?_⟩
  · rw [State.loseEvent_slots, State.loseEvent_slots, slots]
  · rw [State.loseEvent_counters, State.loseEvent_counters, counters]
  · rw [State.loseEvent_alarmLoss, State.loseEvent_alarmLoss, alarmLoss]

/-- Raising an event depends on the report block alone (R104 to R106). -/
theorem State.SameReports.raise {s t : State} (h : s.SameReports t) (e : Event) :
    (s.raise e).SameReports (t.raise e) := by
  have supersede : t.supersedeSlot e = s.supersedeSlot e := by rw [State.supersedeSlot, State.supersedeSlot, h.1]
  have new : t.newSlot e = s.newSlot e := by rw [State.newSlot, State.newSlot, h.1]
  have slot (i : Fin 16) : t.slot i = s.slot i := by rw [State.slot, State.slot, h.1]
  unfold State.raise
  rw [supersede, new]
  split
  · exact ⟨by simp [State.setSlot, slot, h.1], h.2.1, h.2.2⟩
  · split
    · exact ⟨by simp [State.setSlot, slot, h.1], h.2.1, h.2.2⟩
    · exact h.loseEvent e

theorem State.SameReports.raiseAll {s t : State} (h : s.SameReports t) (es : List Event) :
    (s.raiseAll es).SameReports (t.raiseAll es) := by
  induction es generalizing s t with
  | nil => exact h
  | cons e es ih => exact ih (h.raise e)

theorem State.raiseAll_append (s : State) (es fs : List Event) : s.raiseAll (es ++ fs) = (s.raiseAll es).raiseAll fs :=
  List.foldl_append

theorem State.raiseAll_changes (s : State) (es : List Event) : s.Changes (s.raiseAll es) reportFields :=
  State.Changes.foldl State.raise_changes es s

/-- What two steps in a row tell. -/
theorem State.SameReports.append {s t u : State} {es fs : List Event} (h : (s.raiseAll es).SameReports t)
    (k : (t.raiseAll fs).SameReports u) : (s.raiseAll (es ++ fs)).SameReports u := by
  rw [State.raiseAll_append]
  exact (h.raiseAll fs).trans k

/-- The SENSOR event of a present descriptor (R17). -/
theorem State.raiseSensor_eq {s : State} {sel : Selector} {c : SensorConfig} (present : (s.desc sel).config = some c)
    (left : SensorState) : s.raiseSensor sel left =
      s.raiseAll (sensorEvents c sel left (s.desc sel).state (s.desc sel).age (s.desc sel).rejects) := by
  unfold State.raiseSensor sensorEvents
  dsimp only
  rw [present]
  dsimp only
  split <;> rfl

/-! ### Zones -/

theorem State.ZonesKept.of_zones {s t : State} (h : t.zones = s.zones) : s.ZonesKept t := fun z => by
  simp [State.zone, h]

theorem State.ZonesKept.refl (s : State) : s.ZonesKept s := .of_zones rfl

theorem State.ZonesKept.trans {s t u : State} (h : s.ZonesKept t) (k : t.ZonesKept u) : s.ZonesKept u := fun z => by
  rw [k z, h z]

theorem State.reencode_zonesKept (s : State) (z : Fin 32) : s.ZonesKept (s.reencode z) := fun y => by
  by_cases same : y = z
  · subst same
    simp [State.reencode, State.updZone]
  · simp [State.reencode, State.updZone, State.setZone_zone_ne _ _ same]

theorem State.reencodeOf_zonesKept (s : State) (c : Option SurfaceConfig) : s.ZonesKept (s.reencodeOf c) := by
  cases c with
  | none => exact .refl s
  | some c => exact s.reencode_zonesKept c.zone

/-! ### GRADE events -/

/-- The GRADE event of one record between two states, if there is one (R96, R97). -/
def gradeEventOf (i : Fin 64) (before after : Surface) : Option Event :=
  match after.config with
  | none => none
  | some c =>
    if c.reportEnable = true ∧ after.grade ≠ (if before.config = none then Grade.blind else before.grade) then
      some (.grade i (if before.config = none then Grade.blind else before.grade) after.grade after.margin
        after.confirmed (decide (after.source = some .fallback)))
    else none

theorem State.gradeEvents_eq (s t : State) :
    s.gradeEvents t = (List.finRange 64).filterMap fun i => gradeEventOf i (s.surface i) (t.surface i) := by
  unfold State.gradeEvents gradeEventOf
  rfl

/-- A record whose grade is the one it held, in use or not, has no event. -/
theorem gradeEventOf_self (i : Fin 64) (r : Surface) : gradeEventOf i r r = none := by
  unfold gradeEventOf
  split
  · rfl
  · next c used => simp [used]

theorem State.gradeEvents_congr {s u : State} (h : u.surfaces = s.surfaces) (t : State) :
    u.gradeEvents t = s.gradeEvents t := by
  rw [State.gradeEvents_eq, State.gradeEvents_eq]
  simp only [State.surface, h]

/-- Where no record changed there is no event. -/
theorem State.gradeEvents_same {s t : State} (h : t.surfaces = s.surfaces) : s.gradeEvents t = [] := by
  rw [State.gradeEvents_eq, List.filterMap_eq_nil_iff]
  intro i _
  rw [State.surface, State.surface, h]
  exact gradeEventOf_self i _

/-- Where only the records that pass a test changed, the events are theirs, in ascending order. -/
theorem State.gradeEvents_of_indices {s t : State} {test : Surface → Bool} {g : Surface → Surface}
    (h : ∀ i, t.surface i = if test (s.surface i) then g (s.surface i) else s.surface i) :
    s.gradeEvents t =
      (s.surfaces.indices test).filterMap fun i => gradeEventOf i (s.surface i) (g (s.surface i)) := by
  rw [State.gradeEvents_eq, Tbl.indices, List.filterMap_filter]
  refine List.filterMap_congr fun i _ => ?_
  rw [h i]
  show _ = if test (s.surface i) = true then _ else _
  split
  · rfl
  · exact gradeEventOf_self i _

/-- Where only one record changed the event is its own. -/
theorem State.gradeEvents_of_one {s t : State} {i : Fin 64} (others : s.OtherSurfaces t i) :
    s.gradeEvents t = (gradeEventOf i (s.surface i) (t.surface i)).toList := by
  have apart (j : Fin 64) (h : j ≠ i) : gradeEventOf j (s.surface j) (t.surface j) = none := by
    rw [others j h]
    exact gradeEventOf_self j _
  have one (l : List (Fin 64)) (nodup : l.Nodup) :
      (l.filterMap fun j => gradeEventOf j (s.surface j) (t.surface j)) =
        if i ∈ l then (gradeEventOf i (s.surface i) (t.surface i)).toList else [] := by
    induction l with
    | nil => rfl
    | cons j l ih =>
      obtain ⟨out, nodup⟩ := List.nodup_cons.mp nodup
      by_cases same : j = i
      · subst same
        have rest := ih nodup
        rw [if_neg out] at rest
        simp only [List.filterMap_cons, rest, List.mem_cons, true_or, if_true]
        cases gradeEventOf j (s.surface j) (t.surface j) <;> rfl
      · simp only [List.filterMap_cons, apart j same, ih nodup, List.mem_cons, Ne.symm same, false_or]
  rw [State.gradeEvents_eq, one _ (List.nodup_finRange 64), if_pos (List.mem_finRange i)]

/-! ### One record -/

/-- One record becomes `r` in a step that tells its GRADE event, if there is one, and touches nothing else but the worst
grades and the CONDENSE line. -/
structure State.Regrades (s t : State) (i : Fin 64) (r : Surface) : Prop where
  surface : t.surface i = r
  others : s.OtherSurfaces t i
  zones : s.ZonesKept t
  reports : (s.raiseAll (gradeEventOf i (s.surface i) r).toList).SameReports t
  changes : s.Changes t gradeFields

/-- A record whose grade is another than the one it held has one more change (R96). -/
def Surface.recounted (r : Surface) (left : Grade) : Surface :=
  if r.grade ≠ left then { r with changes := satInc r.changes } else r

theorem Surface.recounted_config (r : Surface) (left : Grade) : (r.recounted left).config = r.config := by
  unfold Surface.recounted
  split <;> rfl

/-- The event of a recounted record is that of the record (R97). -/
theorem gradeEventOf_recounted {before r : Surface} {c : SurfaceConfig} (used : r.config = some c) (i : Fin 64) :
    gradeEventOf i before (r.recounted before.gradeBefore) =
      if c.reportEnable = true ∧ r.grade ≠ before.gradeBefore then
        some ((r.recounted before.gradeBefore).gradeEvent i before.gradeBefore)
      else none := by
  have left : (if before.config = none then Grade.blind else before.grade) = before.gradeBefore := by
    cases h : before.config <;> simp [Surface.gradeBefore, h]
  have grade : (r.recounted before.gradeBefore).grade = r.grade := by
    unfold Surface.recounted
    split <;> rfl
  unfold gradeEventOf
  simp only [Surface.recounted_config, used, left, grade, Surface.gradeEvent]

theorem State.setSurface_otherSurfaces (s : State) (i : Fin 64) (r : Surface) : s.OtherSurfaces (s.setSurface i r) i :=
  fun _ apart => State.setSurface_surface_ne s r apart

/-- A change of fields other than the surfaces leaves the records. -/
theorem State.Changes.surfaceAt {s t : State} {fs : List Field} (h : s.Changes t fs) (i : Fin 64)
    (apart : .surfaces ∉ fs := by decide) : t.surface i = s.surface i := by
  rw [State.surface, State.surface, show t.surfaces = s.surfaces from h.same .surfaces apart]

/-- What follows a record's storing: neither the event nor the encodings touch a record (R96). -/
theorem State.gradeChanged_eq {s : State} {i : Fin 64} {c : SurfaceConfig} (used : (s.surface i).config = some c)
    (left : Grade) : s.gradeChanged i left =
      ((((s.setSurface i { s.surface i with changes := satInc (s.surface i).changes }).raiseAll
        (if c.reportEnable then
          [Surface.gradeEvent { s.surface i with changes := satInc (s.surface i).changes } i left]
        else [])).reencode c.zone).evalCondense) := by
  unfold State.gradeChanged
  rw [used]
  dsimp only
  split <;> simp [State.raiseAll]

/-- Storing a record in use under a new grade or the old one, with the effects of a change (R96, R97). -/
theorem State.regrade_regrades (s : State) (i : Fin 64) {r : Surface} {c : SurfaceConfig} (used : r.config = some c) :
    s.Regrades (s.regrade i (s.surface i).gradeBefore r) i (r.recounted (s.surface i).gradeBefore) := by
  by_cases same : r.grade = (s.surface i).gradeBefore
  · have stored : s.regrade i (s.surface i).gradeBefore r = s.setSurface i r := by simp [State.regrade, same]
    have kept : r.recounted (s.surface i).gradeBefore = r := by simp [Surface.recounted, same]
    have quiet : gradeEventOf i (s.surface i) r = none := by
      have := gradeEventOf_recounted (before := s.surface i) used i
      rwa [kept, if_neg (by simp [same])] at this
    rw [stored, kept]
    exact ⟨s.setSurface_surface i r, s.setSurface_otherSurfaces i r, .of_zones rfl,
      by rw [quiet]; exact (s.setSurface_changes i r).sameReports, (s.setSurface_changes i r).mono (by decide)⟩
  · have recounted : r.recounted (s.surface i).gradeBefore = { r with changes := satInc r.changes } := by
      simp [Surface.recounted, same]
    have event := gradeEventOf_recounted (before := s.surface i) used i
    rw [recounted] at event
    have changed : s.regrade i (s.surface i).gradeBefore r =
        (((s.setSurface i { r with changes := satInc r.changes }).raiseAll
          (gradeEventOf i (s.surface i) { r with changes := satInc r.changes }).toList).reencode c.zone).evalCondense := by
      have stored : s.regrade i (s.surface i).gradeBefore r =
          (s.setSurface i r).gradeChanged i (s.surface i).gradeBefore := by simp [State.regrade, same]
      have twice : (s.setSurface i r).setSurface i { r with changes := satInc r.changes } =
          s.setSurface i { r with changes := satInc r.changes } := by
        simp only [State.setSurface, State.setSurfaces]
        congr 1
        apply Tbl.ext_get
        intro j
        simp only [Tbl.get_set]
        split <;> rfl
      rw [stored, State.gradeChanged_eq (s := s.setSurface i r) (by simpa using used), event]
      simp only [State.setSurface_surface, twice, same, ne_eq, not_false_eq_true, and_true]
      split <;> rfl
    have told := (s.setSurface i { r with changes := satInc r.changes }).raiseAll_changes
      (gradeEventOf i (s.surface i) { r with changes := satInc r.changes }).toList
    have encoded := State.reencode_changes ((s.setSurface i { r with changes := satInc r.changes }).raiseAll
      (gradeEventOf i (s.surface i) { r with changes := satInc r.changes }).toList) c.zone
    have evaluated := State.evalCondense_changes (((s.setSurface i { r with changes := satInc r.changes }).raiseAll
      (gradeEventOf i (s.surface i) { r with changes := satInc r.changes }).toList).reencode c.zone)
    have after (j : Fin 64) : (s.regrade i (s.surface i).gradeBefore r).surface j =
        (s.setSurface i { r with changes := satInc r.changes }).surface j := by
      rw [changed, evaluated.surfaceAt, encoded.surfaceAt, told.surfaceAt]
    rw [recounted]
    refine ⟨(after i).trans (State.setSurface_surface s i _), fun j apart =>
      (after j).trans (State.setSurface_surface_ne s _ apart), ?_, ?_, s.regrade_changes i _ r⟩
    · rw [changed]
      exact ((State.ZonesKept.of_zones (told.same .zones (by decide))).trans (State.reencode_zonesKept _ _)).trans
        (.of_zones rfl)
    · rw [changed]
      exact (((s.setSurface_changes i _).sameReports.raiseAll _).trans encoded.sameReports).trans evaluated.sameReports

/-- Clearing CONFIRMED tells nothing (R91, R94). -/
theorem State.unconfirmed_regrades (s : State) {i : Fin 64} (used : (s.surface i).config ≠ none) :
    s.Regrades (s.unconfirmed i) i { s.surface i with confirmed := false } := by
  have quiet : gradeEventOf i (s.surface i) { s.surface i with confirmed := false } = none := by
    cases h : (s.surface i).config with
    | none => exact absurd h used
    | some c => simp [gradeEventOf, h]
  exact ⟨s.setSurface_surface i _, s.setSurface_otherSurfaces i _, .of_zones rfl,
    by rw [quiet]; exact (s.setSurface_changes i _).sameReports, s.unconfirmed_changes i⟩

/-! ### Several records -/

/-- Records regraded one after the other, each as `g` has it, tell their events in that order. -/
theorem State.foldl_regrades {f : State → Fin 64 → State} {g : Surface → Surface}
    (step : ∀ (u : State) (i : Fin 64), (u.surface i).config ≠ none → u.Regrades (f u i) i (g (u.surface i)))
    (l : List (Fin 64)) (s : State) (nodup : l.Nodup) (used : ∀ i ∈ l, (s.surface i).config ≠ none) :
    (∀ i, (l.foldl f s).surface i = if i ∈ l then g (s.surface i) else s.surface i) ∧
      s.ZonesKept (l.foldl f s) ∧ s.Changes (l.foldl f s) gradeFields ∧
      (s.raiseAll (l.filterMap fun i => gradeEventOf i (s.surface i) (g (s.surface i)))).SameReports (l.foldl f s) := by
  induction l generalizing s with
  | nil => exact ⟨fun i => by simp, .refl s, .refl s _, .refl s⟩
  | cons i l ih =>
    obtain ⟨out, nodup⟩ := List.nodup_cons.mp nodup
    have first := step s i (used i (List.mem_cons_self ..))
    have others (j : Fin 64) (mem : j ∈ l) : (f s i).surface j = s.surface j :=
      first.others j fun same => out (same ▸ mem)
    obtain ⟨surfaces, zones, changes, reports⟩ := ih (f s i) nodup fun j mem => by
      rw [others j mem]
      exact used j (List.mem_cons_of_mem i mem)
    refine ⟨fun j => ?_, first.zones.trans zones, first.changes.trans changes, ?_⟩
    · rw [List.foldl_cons, surfaces j]
      by_cases same : j = i
      · subst same
        simp [out, first.surface]
      · simp [same, first.others j same]
    · have later : (l.filterMap fun j => gradeEventOf j ((f s i).surface j) (g ((f s i).surface j))) =
          l.filterMap fun j => gradeEventOf j (s.surface j) (g (s.surface j)) :=
        List.filterMap_congr fun j mem => by rw [others j mem]
      rw [later] at reports
      have told := first.reports.append reports
      rw [List.foldl_cons, List.filterMap_cons]
      cases event : gradeEventOf i (s.surface i) (g (s.surface i)) with
      | none => rwa [event] at told
      | some e => rwa [event] at told

/-- A step that regrades records and tells their GRADE events. -/
structure State.Grades (s t : State) : Prop where
  zones : s.ZonesKept t
  changes : s.Changes t gradeFields
  reports : (s.raiseAll (s.gradeEvents t)).SameReports t

theorem State.Grades.refl (s : State) : s.Grades s :=
  ⟨.refl s, .refl s _, by rw [State.gradeEvents_same rfl]; exact .refl s⟩

theorem State.Regrades.grades {s t : State} {i : Fin 64} {r : Surface} (h : s.Regrades t i r) : s.Grades t :=
  ⟨h.zones, h.changes, by rw [State.gradeEvents_of_one h.others, h.surface]; exact h.reports⟩

/-- The records that pass a test regraded in ascending order. -/
theorem State.foldl_indices_regrades {f : State → Fin 64 → State} {g : Surface → Surface}
    (step : ∀ (u : State) (i : Fin 64), (u.surface i).config ≠ none → u.Regrades (f u i) i (g (u.surface i)))
    (s : State) {test : Surface → Bool} (used : ∀ r, test r = true → r.config ≠ none) :
    (∀ i, ((s.surfaces.indices test).foldl f s).surface i =
        if test (s.surface i) then g (s.surface i) else s.surface i) ∧
      s.Grades ((s.surfaces.indices test).foldl f s) := by
  have mem (i : Fin 64) : i ∈ s.surfaces.indices test ↔ test (s.surface i) = true := by
    simp [Tbl.indices, State.surface]
  obtain ⟨surfaces, zones, changes, reports⟩ := State.foldl_regrades step (s.surfaces.indices test) s
    ((List.nodup_finRange 64).filter _) fun i passes => used _ ((mem i).mp passes)
  simp only [mem] at surfaces
  exact ⟨surfaces, zones, changes, by rw [State.gradeEvents_of_indices surfaces]; exact reports⟩

/-! ### Probe notices and wetness arrivals -/

theorem Surface.gradeBefore_of_used {r : Surface} (used : r.config ≠ none) : r.gradeBefore = r.grade := by
  cases h : r.config with
  | none => exact absurd h used
  | some c => simp [Surface.gradeBefore, h]

/-- A record in use stored with its configuration kept. -/
theorem State.regrade_used (s : State) {i : Fin 64} (used : (s.surface i).config ≠ none) {r : Surface}
    (config : r.config = (s.surface i).config) :
    s.Regrades (s.regrade i (s.surface i).grade r) i (r.recounted (s.surface i).grade) := by
  obtain ⟨c, hc⟩ := Option.ne_none_iff_exists'.mp used
  have := s.regrade_regrades i (r := r) (config.trans hc)
  rwa [Surface.gradeBefore_of_used used] at this

theorem State.probeNotice_surface (s : State) (sel : Selector) :
    (∀ i, (s.probeNotice .surface sel).surface i =
      if (match (s.surface i).config with
        | some c => decide (c.probe = sel)
        | none => false) then (s.surface i).blinded.recounted (s.surface i).grade else s.surface i) ∧
      s.Grades (s.probeNotice .surface sel) :=
  State.foldl_indices_regrades (g := fun r => r.blinded.recounted r.grade)
    (fun u i used => u.regrade_used used rfl) s fun r named unused => by simp [unused] at named

theorem State.unconfirm_pads (s : State) (sel : Selector) :
    (∀ i, ((s.padSurfaces sel).foldl State.unconfirmed s).surface i =
      if (match (s.surface i).config with
        | some c => decide (c.wetness = some sel)
        | none => false) then { s.surface i with confirmed := false } else s.surface i) ∧
      s.Grades ((s.padSurfaces sel).foldl State.unconfirmed s) :=
  State.foldl_indices_regrades (g := fun r => { r with confirmed := false })
    (fun u _ used => u.unconfirmed_regrades used) s fun r named unused => by simp [unused] at named

theorem State.wet_pads (s : State) (sel : Selector) :
    (∀ i, (s.wetnessArrival sel .water).surface i =
      if (match (s.surface i).config with
        | some c => decide (c.wetness = some sel)
        | none => false)
      then Surface.recounted { s.surface i with confirmed := true, grade := .wet, dwell := 0 } (s.surface i).grade
      else s.surface i) ∧
      s.Grades (s.wetnessArrival sel .water) :=
  State.foldl_indices_regrades
    (g := fun r => Surface.recounted { r with confirmed := true, grade := .wet, dwell := 0 } r.grade)
    (fun u i used => u.regrade_used used rfl) s fun r named unused => by simp [unused] at named

theorem State.probeNotice_grades (s : State) (kind : SensorKind) (sel : Selector) : s.Grades (s.probeNotice kind sel) := by
  cases kind with
  | air => exact .refl s
  | surface => exact (s.probeNotice_surface sel).2
  | wetness => exact (s.unconfirm_pads sel).2

theorem State.wetnessArrival_grades (s : State) (sel : Selector) (w : Wet) : s.Grades (s.wetnessArrival sel w) := by
  cases w with
  | water => exact (s.wet_pads sel).2
  | dry => exact (s.unconfirm_pads sel).2

/-- A record without its probe, with the change counted (R93, R96). -/
theorem Surface.blinded_recounted (r : Surface) :
    r.blinded.recounted r.grade =
      { r with
        grade := if r.confirmed then r.grade else .blind
        margin := none, source := none, dwell := 0
        changes :=
          if r.confirmed = true ∨ r.grade = .blind then r.changes else min (r.changes + 1) 65535 } := by
  unfold Surface.recounted Surface.blinded satInc
  by_cases confirmed : r.confirmed = true
  · simp [confirmed]
  · by_cases blind : r.grade = .blind
    · simp [confirmed, blind]
    · simp [confirmed, blind, Ne.symm blind]

/-- The records after a probe notice (R93, R94). -/
theorem State.probeNotice_noticed (s : State) (kind : SensorKind) (sel : Selector) :
    s.Noticed (s.probeNotice kind sel) kind sel := by
  intro i
  cases kind with
  | air => cases h : (s.surface i).config <;> rfl
  | surface =>
    have record := (s.probeNotice_surface sel).1 i
    cases h : (s.surface i).config with
    | none => simpa [h] using record
    | some c => simpa [h, Surface.blinded_recounted] using record
  | wetness =>
    have record : (s.probeNotice .wetness sel).surface i = _ := (s.unconfirm_pads sel).1 i
    cases h : (s.surface i).config with
    | none => simpa [h] using record
    | some c => simpa [h] using record

theorem State.Noticed.of_surfaces {s u t : State} {kind : SensorKind} {sel : Selector} (h : u.Noticed t kind sel)
    (same : u.surfaces = s.surfaces) : s.Noticed t kind sel := by
  intro i
  have at_ := h i
  rwa [show u.surface i = s.surface i by rw [State.surface, State.surface, same]] at at_

end Sys2Proof.Machine
end

section
/-! PROOFS. Time: the seconds tick, SILENT, a sensor that goes STALE and the epoch expiry (R16, R65 to R67, R110, R163). -/

-- The text is compiled as a whole: side by side its proofs would need more threads than there is memory for.
set_option Elab.async false

namespace Sys2Proof.Machine

/-! ### The tick and SILENT -/

theorem State.tick_desc (s : State) (sel : Selector) : s.tick.desc sel = (s.desc sel).ticked := Tbl.get_map _ _ _

theorem Descriptor.ticked_eq (d : Descriptor) : d.ticked =
    match d.config with
    | none => d
    | some _ => { d with age := min (d.age + 1) 65535 } := by
  unfold Descriptor.ticked
  cases d.config <;> rfl

/-- The entry into SILENT raises its event over the reports it found (R163, R164). -/
theorem State.enterSilent_sameReports (s : State) : (s.raise (.link 4 .silence)).SameReports s.enterSilent := by
  have silent : s.SameReports ((s.updTurn fun t => { t with silent := true, silenceSeen := true }).setDue
      { s.due with silence := false }) := ⟨rfl, rfl, rfl⟩
  exact (silent.raise _).trans (State.evalCondense_changes _).sameReports

/-- Raising an event and evaluating the line leave the turn controller and what is due. -/
theorem State.enterSilent_turn_due (s : State) :
    s.enterSilent.turn = { s.turn with silent := true, silenceSeen := true } ∧
      s.enterSilent.due = { s.due with silence := false } := by
  have told := State.raise_changes ((s.updTurn fun t => { t with silent := true, silenceSeen := true }).setDue
    { s.due with silence := false }) (.link 4 .silence)
  exact ⟨told.same .turn (by decide), told.same .due (by decide)⟩

/-- Settles O6: the tick is a map over the descriptors, two counters and what they make due. -/
theorem tickAdvancesTheTimersAndSilenceFollows : Obligations.TickAdvancesTheTimersAndSilenceFollows := by
  unfold Obligations.TickAdvancesTheTimersAndSilenceFollows
  refine fun s => ⟨fun settled => ?_, fun runs due => ?_⟩
  · refine ⟨s.tick, State.act_settled settled _, 
      fun sel => (s.tick_desc sel).trans (Descriptor.ticked_eq _), rfl, rfl, ?_, settled.restart, s.tick_changes⟩
    show (!s.turn.silent && decide (s.config.silenceLimit ≤ s.turn.ticked.silence)) = true ↔ _
    simp only [Bool.and_eq_true, Bool.not_eq_true', decide_eq_true_eq]
    rfl
  · obtain ⟨turn, due'⟩ := s.enterSilent_turn_due
    exact ⟨s.enterSilent, State.actDue_due runs due _, turn, due', s.enterSilent_sameReports,
      State.evalCondense_condenseFollows _, s.enterSilent_changes⟩

/-! ### A sensor goes STALE -/

/-- A step that stores one descriptor, tells some events and then regrades records. -/
structure State.StoresAndGrades (s t : State) (sel : Selector) (d : Descriptor) (es : List Event) : Prop where
  desc : t.desc sel = d
  others : s.OtherDescs t sel
  changes : s.Changes t ([.sdt, .surfaces, .zones] ++ reportFields)
  zones : s.ZonesKept t
  reports : (s.raiseAll (es ++ s.gradeEvents t)).SameReports t

theorem State.StoresAndGrades.of_grades {s u t : State} {sel : Selector} {d : Descriptor} {es : List Event}
    (stored : u = (s.setDesc sel d).raiseAll es) (graded : u.Grades t) : s.StoresAndGrades t sel d es := by
  subst stored
  have told := (s.setDesc sel d).raiseAll_changes es
  have descs : t.sdt = (s.setDesc sel d).sdt :=
    (told.same .sdt (by decide)).trans (graded.changes.same .sdt (by decide))
  have surfaces : ((s.setDesc sel d).raiseAll es).surfaces = s.surfaces := told.same .surfaces (by decide)
  refine ⟨?_, fun x apart => ?_, ?_, ?_, ?_⟩
  · rw [State.desc, descs]
    exact s.setDesc_desc sel d
  · rw [State.desc, descs]
    exact s.setDesc_desc_ne d apart
  · exact ((s.setDesc_changes sel d).mono (by decide)).andThen told |>.andThen graded.changes
  · exact (State.ZonesKept.of_zones (told.same .zones (by decide))).trans graded.zones
  · rw [← State.gradeEvents_congr surfaces t]
    exact State.SameReports.append ((s.setDesc_changes sel d).sameReports.raiseAll es) graded.reports

/-- R16 to R18: the state, the SENSOR event, the probe notice. -/
theorem State.goStale_eq {s : State} {sel : Selector} {c : SensorConfig} (present : (s.desc sel).config = some c) :
    s.goStale sel =
      ((s.setDesc sel { s.desc sel with phase := .stale }).raiseAll
        (sensorEvents c sel (s.desc sel).state .stale (s.desc sel).age (s.desc sel).rejects)).probeNotice c.kind sel := by
  have stored : ((s.setDesc sel { s.desc sel with phase := .stale }).desc sel).config = some c := by simpa using present
  have stale : ((s.setDesc sel { s.desc sel with phase := .stale }).desc sel).state = .stale := by
    simp [Descriptor.state, present, Phase.state]
  unfold State.goStale
  dsimp only
  split
  · next vacant => cases vacant.symm.trans present
  · next k held =>
    obtain rfl : k = c := Option.some.inj (held.symm.trans present)
    rw [State.raiseSensor_eq stored, stale, State.setDesc_desc]

/-- Settles O7: the expiry is due, and the events follow each other as the state, the notice and the grades do. -/
theorem stalenessExpiryGoesStale : Obligations.StalenessExpiryGoesStale := by
  unfold Obligations.StalenessExpiryGoesStale
  intro s sel c runs present phase limit d
  have due : (s.desc sel).staleDue = true := (Descriptor.staleDue_iff _).mpr ⟨c, present, phase, limit⟩
  let u := (s.setDesc sel { d with phase := .stale }).raiseAll
    (sensorEvents c sel d.state .stale d.age d.rejects)
  have stepped : exec (.stalenessExpiry sel) s = .next (u.probeNotice c.kind sel) := by
    rw [exec_stalenessExpiry, State.actDue_due runs due, State.goStale_eq present]
  have done := State.StoresAndGrades.of_grades (s := s) rfl (u.probeNotice_grades c.kind sel)
  have surfaces : u.surfaces = s.surfaces := (State.raiseAll_changes _ _).same .surfaces (by decide)
  refine ⟨_, stepped, done.desc, done.others, done.changes, done.zones,
    (u.probeNotice_noticed c.kind sel).of_surfaces surfaces, done.reports, fun air => ?_⟩
  rw [air]
  rfl

/-! ### The epoch expiry -/

/-- The zones closed one after the other: each once, none changed by another's close (R66). -/
theorem State.foldl_closeZone (l : List (Fin 32)) (s : State) (nodup : l.Nodup) (z : Fin 32) :
    (l.foldl State.closeZone s).zone z =
        (if z ∈ l then (s.zone z).close (s.zoneClose.get z).isSome else s.zone z) ∧
      (l.foldl State.closeZone s).zoneClose.get z =
        if z ∈ l ∧ (s.zone z).closesAtOnce = false then
          some { swe := (s.zone z).swe, sw := (s.zone z).sw, n := (s.zone z).n }
        else s.zoneClose.get z := by
  induction l generalizing s with
  | nil => simp
  | cons y l ih =>
    obtain ⟨out, nodup⟩ := List.nodup_cons.mp nodup
    obtain ⟨zone, entry⟩ := ih (s.closeZone y) nodup
    have record (x : Fin 32) : (s.closeZone y).zone x =
        if x = y then (s.zone y).close (s.zoneClose.get y).isSome else s.zone x := by
      have stored : (s.closeZone y).zone x =
          (s.setZone y ((s.zone y).close (s.zoneClose.get y).isSome)).zone x := by
        unfold State.closeZone
        dsimp only
        split <;> rfl
      rw [stored]
      split
      · next same => rw [same, State.setZone_zone]
      · next apart => exact State.setZone_zone_ne _ _ apart
    have waits (x : Fin 32) : (s.closeZone y).zoneClose.get x =
        if x = y ∧ (s.zone y).closesAtOnce = false then
          some { swe := (s.zone y).swe, sw := (s.zone y).sw, n := (s.zone y).n }
        else s.zoneClose.get x := by
      unfold State.closeZone
      dsimp only
      split
      · next atOnce => simp [atOnce, State.setZone, State.setZones]
      · next waits => simp [waits, State.setZoneClose, State.setZone, State.setZones, Tbl.get_set, eq_comm]
    rw [List.foldl_cons, zone, entry, record z, waits z]
    by_cases same : z = y
    · subst same
      simp [out]
    · simp [same]

theorem State.closeZones_zone (s : State) (z : Fin 32) :
    s.closeZones.zone z = (s.zone z).close (s.zoneClose.get z).isSome := by
  have := (State.foldl_closeZone _ s (List.nodup_finRange 32) z).1
  rwa [if_pos (List.mem_finRange z)] at this

theorem State.closeZones_zoneClose (s : State) (z : Fin 32) :
    s.closeZones.zoneClose.get z =
      if (s.zone z).closesAtOnce = true then s.zoneClose.get z
      else some { swe := (s.zone z).swe, sw := (s.zone z).sw, n := (s.zone z).n } := by
  have := (State.foldl_closeZone _ s (List.nodup_finRange 32) z).2
  rw [State.closeZones, this]
  cases (s.zone z).closesAtOnce <;> simp

theorem Zone.closesAtOnce_iff (r : Zone) : r.closesAtOnce = true ↔ r.sw = 0 ∨ r.overflow = true := by
  simp [Zone.closesAtOnce]

/-- Raising a ZONE event leaves the zones, so each tells its record as it stands (R73). -/
theorem State.foldl_raiseZone (l : List (Fin 32)) (s : State) :
    l.foldl State.raiseZone s = s.raiseAll (l.filterMap fun z =>
      if (s.zone z).summary = true then
        some (.zone z (s.zone z).result (s.zone z).closed (s.zone z).worst)
      else none) := by
  induction l generalizing s with
  | nil => rfl
  | cons z l ih =>
    have zones (y : Fin 32) : (s.raiseZone z).zone y = s.zone y := by
      rw [State.zone, State.zone, show (s.raiseZone z).zones = s.zones from
        (s.raiseZone_changes z).same .zones (by decide)]
    rw [List.foldl_cons, ih]
    simp only [zones, List.filterMap_cons]
    by_cases enabled : (s.zone z).summary = true
    · have raised : s.raiseZone z = s.raise (.zone z (s.zone z).result (s.zone z).closed (s.zone z).worst) := by
        simp [State.raiseZone, enabled]
      rw [raised, if_pos enabled]
      rfl
    · have quiet : s.raiseZone z = s := by simp [State.raiseZone, enabled]
      rw [quiet, if_neg enabled]

/-- The engine takes the lowest-numbered zone that waits (R41). -/
theorem State.takeJob_of_zone {s : State} {z : Fin 32} {snap : Snapshot} (waits : s.zoneClose.get z = some snap)
    (lowest : ∀ y : Fin 32, y < z → s.zoneClose.get y = none) :
    s.takeJob = (s.setZoneClose (s.zoneClose.set z none)).setJob (some (.zone z snap s.svt.gen)) := by
  have head : s.closing.head? = some z :=
    Tbl.indices_head_some s.zoneClose Option.isSome z (by rw [waits]; rfl) fun y below => by rw [lowest y below]; rfl
  obtain ⟨rest, closing⟩ : ∃ rest, s.closing = z :: rest := by
    cases h : s.closing with
    | nil => simp [h] at head
    | cons y rest => exact ⟨rest, by simpa [h] using head⟩
  unfold State.takeJob
  rw [closing]
  dsimp only
  rw [waits]

/-- Settles O8: every zone is closed before the engine looks for work and before an event is raised. -/
theorem epochExpiryClosesEveryZone : Obligations.EpochExpiryClosesEveryZone := by
  unfold Obligations.EpochExpiryClosesEveryZone
  intro s runs elapsed atOnce entry closed told
  let u := (s.setEpochCount 0).closeZones
  let v := u.takeIfIdle
  have due : s.epochDue = true := by simpa [State.epochDue] using elapsed
  have zone (z : Fin 32) : u.zone z = closed z := (s.setEpochCount 0).closeZones_zone z
  have waits (z : Fin 32) : u.zoneClose.get z = entry z := by
    rw [(s.setEpochCount 0).closeZones_zoneClose z]
    simp only [Zone.closesAtOnce_iff]
    rfl
  have closing : s.Changes u [.epochCount, .zones, .zoneClose] :=
    ((s.setEpochCount_changes 0).mono (by decide)).andThen (State.closeZones_changes _)
  have taking : u.Changes v [.job, .evalQueue, .zoneClose] := u.takeIfIdle_changes
  have zones (z : Fin 32) : v.zone z = closed z := by
    rw [State.zone, show v.zones = u.zones from taking.same .zones (by decide)]
    exact zone z
  have events : ((s.zones.indices Zone.closesAtOnce).filterMap fun z =>
      if (v.zone z).summary = true then
        some (Event.zone z (v.zone z).result (v.zone z).closed (v.zone z).worst)
      else none) =
      (List.finRange 32).filterMap fun z =>
        if atOnce z ∧ (s.zone z).summary = true then
          some (.zone z (closed z).result (closed z).closed (closed z).worst)
        else none := by
    rw [Tbl.indices, List.filterMap_filter]
    refine List.filterMap_congr fun z _ => ?_
    have test : (s.zones.get z).closesAtOnce = true ↔ atOnce z := Zone.closesAtOnce_iff (s.zone z)
    have summary : (closed z).summary = (s.zone z).summary := rfl
    rw [zones z, summary]
    by_cases h : atOnce z
    · rw [if_pos (test.mpr h)]
      simp [h]
    · rw [if_neg fun passes => h (test.mp passes)]
      simp [h]
  let w := (s.zones.indices Zone.closesAtOnce).foldl State.raiseZone v
  have raised : w = v.raiseAll _ := State.foldl_raiseZone _ v
  rw [events] at raised
  have reports : told.SameReports w := by
    rw [raised]
    exact ((closing.sameReports).trans taking.sameReports).raiseAll _
  have telling : v.Changes w reportFields := raised ▸ v.raiseAll_changes _
  have flushing : v.Changes s.epochExpires reportFields := telling.andThen (State.flushSlots_changes w)
  have job : s.epochExpires.job = v.job := flushing.same .job (by decide)
  have queue : s.epochExpires.evalQueue = v.evalQueue := flushing.same .evalQueue (by decide)
  have close : s.epochExpires.zoneClose = v.zoneClose := flushing.same .zoneClose (by decide)
  have held : u.job = s.job := closing.same .job (by decide)
  have idling (idle : s.job = none) : v = u.takeJob := by
    show u.takeIfIdle = _
    simp [State.takeIfIdle, held, idle]
  obtain ⟨slots, counters, alarmLoss⟩ := reports
  refine ⟨s.epochExpires, State.actDue_due runs due _, ?_, fun z => ?_, fun i => ?_, counters, alarmLoss, fun busy => ?_,
    fun idle => ?_, fun idle z snap waiting lowest => ?_, s.epochExpires_changes⟩
  · have kept : s.epochExpires.epochCount = (s.setEpochCount 0).epochCount :=
      (((s.setEpochCount 0).closeZones_changes.same .epochCount (by decide)).trans
        (taking.same .epochCount (by decide))).trans (flushing.same .epochCount (by decide))
    exact kept
  · rw [State.zone, show s.epochExpires.zones = v.zones from flushing.same .zones (by decide)]
    exact zones z
  · have flushed : s.epochExpires.slot i =
        if (w.slot i).state = .collecting then { w.slot i with state := .pending } else w.slot i := Tbl.get_map _ _ _
    rw [flushed, State.slot, slots]
    rfl
  · have same : v = u := by
      show u.takeIfIdle = u
      simp [State.takeIfIdle, held, Option.isNone_iff_eq_none, busy]
    rw [job, queue, close, same]
    exact ⟨held, closing.same .evalQueue (by decide), waits⟩
  · rw [job, queue, close, idling idle]
    exact ⟨u, closing, zone, waits, rfl, rfl, rfl⟩
  · have took := (idling idle).trans
      (State.takeJob_of_zone ((waits z).trans waiting) fun y below => (waits y).trans (lowest y below))
    have gen : u.svt = s.svt := closing.same .svt (by decide)
    rw [job, close, took, ← gen]
    refine ⟨rfl, fun y => ?_⟩
    show (u.zoneClose.set z none).get y = _
    rw [Tbl.get_set, waits y]
    simp only [eq_comm]

end Sys2Proof.Machine
end

section
/-! PROOFS. Frames and characters on a line: what is read back of what was sent (R120 to R130, 12.2). -/

-- The text is compiled as a whole: side by side its proofs would need more threads than there is memory for.
set_option Elab.async false

namespace Sys2Proof.Machine

/-! ### Frames -/

theorem Scope.ofCode_code (x : Scope) : Scope.ofCode x.code = some x := by cases x <;> rfl

/-- The two fields of a header byte. -/
theorem BitVec.extract_append_high {v w : Nat} (a : BitVec v) (b : BitVec w) : (a ++ b).extractLsb' w v = a := by
  ext i hi
  simp [BitVec.getLsbD_append, hi]

theorem BitVec.extract_append_low {v w : Nat} (a : BitVec v) (b : BitVec w) : (a ++ b).extractLsb' 0 w = b := by
  ext i hi
  simp [BitVec.getLsbD_append, hi]

theorem BitVec.extract_append_middle {u v w : Nat} (z : BitVec u) (a : BitVec v) (b : BitVec w) :
    (z ++ a ++ b).extractLsb' w v = a := by
  ext i hi
  simp [BitVec.getLsbD_append, hi]

theorem crcBytes_length (bytes : List Byte) : (crcBytes bytes).length = 2 := rfl

theorem headerBytes_length (f : Frame) : (headerBytes f).length = 7 := rfl

/-- The length byte of a frame that fits on a line gives its payload's length (R126). -/
theorem lengthByte_toNat {n : Nat} (fits : n ≤ 48) : (BitVec.ofNat 8 n).toNat = n := by
  rw [BitVec.toNat_ofNat]
  omega

/-- A frame of up to 48 payload bytes is read back from its characters, with every field (R126 to R130). -/
theorem decodeFrame_encodeFrame {f : Frame} (fits : f.payload.length ≤ 48) : decodeFrame (encodeFrame f) = .good f := by
  have size := lengthByte_toNat fits
  simp only [encodeFrame, headerBytes, List.cons_append, List.nil_append, decodeFrame, size]
  rw [if_neg (by simp [crcBytes_length]), List.take_left, List.drop_left]
  simp only [ne_eq, not_true_eq_false, if_false, BitVec.extract_append_high, BitVec.extract_append_low,
    BitVec.extract_append_middle, Scope.ofCode_code]

/-! ### Cells -/

/-- Eight flags taken from a byte make the byte again. -/
theorem flagByte_bits (b : Byte) :
    flagByte [b.getLsbD 0, b.getLsbD 1, b.getLsbD 2, b.getLsbD 3, b.getLsbD 4, b.getLsbD 5, b.getLsbD 6,
      b.getLsbD 7] = b := by
  revert b
  decide +kernel

/-- The level a line idles at is active exactly under another inversion than it is driven with. -/
theorem lineActive_idle (p : Port) (rx tx : Bool) : lineActive p rx (lineLevel p tx false) = (rx ^^ tx) := by
  cases p <;> cases rx <;> cases tx <;> rfl

section
variable (p : Port) {tx rx : Settings} (b : Byte)

/-- A character is seen exactly under the inversion it is driven with. -/
theorem startSeen_charLevels : startSeen p rx (charLevels p tx b) = decide (rx.rxInv = tx.txInv) := by
  have before : (charLevels p tx b).before = lineLevel p tx.txInv false := rfl
  have start : ((charLevels p tx b).cells.headD []).head? = some (lineLevel p tx.txInv true) := by
    cases p <;> rfl
  rw [startSeen, before, start, Option.any_some, lineActive_idle]
  cases p <;> cases rx.rxInv <;> cases tx.txInv <;> rfl

theorem readCells_characterCells (parity : Parity) :
    readCells parity (characterCells parity b) =
      { data := b, parityBit := (parityBitOf parity b).getD false, stopBit := true } := by
  cases parity <;>
    simpa [readCells, characterCells, dataCells, parityBitOf, characterTime] using flagByte_bits b

theorem readLine_charLevels (parity : rx.parity = tx.parity) (same : rx.rxInv = tx.txInv) :
    readLine p rx (charLevels p tx b) =
      some { data := b, parityBit := (parityBitOf rx.parity b).getD false, stopBit := true } := by
  rw [readLine, startSeen_charLevels, decide_eq_true same, if_pos rfl, map_readCell_charLevels p same, ← parity,
    readCells_characterCells]

/-- The character as sent carries no parity error (R120). -/
theorem parityError_sent (parity : Parity) (stop : Bool) :
    parityError parity { data := b, parityBit := (parityBitOf parity b).getD false, stopBit := stop } = false := by
  cases parity <;> simp [parityError, parityBitOf]

/-- The stop cell is dark on a floor port (R121). -/
theorem lineHeld_charLevels (parity : rx.parity = tx.parity) (same : rx.rxInv = tx.txInv) :
    lineHeld p rx (charLevels p tx b) = false := by
  cases p with
  | u => rfl
  | floor q =>
    cases h : tx.parity <;>
      simp [lineHeld, charLevels, parity, h, characterTime, characterCells, dataCells, parityBitOf, cellLevels,
        lightQuarters, same]

end

/-- A receiver sees a start bit where the line before was idle and the start cell begins active. -/
theorem readLine_isSome (p : Port) (st : Settings) (l : LineChar) :
    (readLine p st l).isSome = startSeen p st l := by
  unfold readLine
  split
  · next seen => simp [seen]
  · next unseen => simp [unseen]

/-- Settles O53: frames by their bytes, characters by their cells, cells by their levels. -/
theorem framesSurviveTheLine : Obligations.FramesSurviveTheLine := by
  unfold Obligations.FramesSurviveTheLine
  refine ⟨fun f fits => decodeFrame_encodeFrame fits, fun p tx rx b parity => ⟨fun same => ?_, fun differ => ?_⟩,
    fun r p => ⟨fun idle => ?_, fun f reply sending => ?_⟩, fun r q b => ⟨?_, ?_⟩, fun r b => ⟨?_, ?_⟩,
    fun q st levels => ?_, fun st levels x centre => ?_, fun p st l active => ?_,
    fun r p l => ⟨fun steady => ?_, fun turned x xs rest cells => ?_⟩⟩
  · exact ⟨_, readLine_charLevels p b parity same, rfl, rfl, parityError_sent b _ _,
      lineHeld_charLevels p b parity same⟩
  · rw [readLine, startSeen_charLevels, decide_eq_false differ]
    rfl
  · simp [PortRec.driven, idle]
  · simp [PortRec.driven, sending]
  · simp [PortRec.idleDrive, idleLevel, lineLevel]
  · simp [charLevels, idleLevel, lineLevel, cellLevels, lightQuarters]
  · simp [PortRec.idleDrive, idleLevel, lineLevel]
  · simp [charLevels, idleLevel, lineLevel, cellLevels]
  · simp [readCell, stretch, lineActive]
  · simp [readCell, lineActive, centre]
  · refine readLine_of_active_before ?_
    rw [active]
    cases p <;> simp [lineActive]
  · exact PortRec.reads_of_not_turned steady p l
  · rw [PortRec.reads, readLine_isSome]
    have before : (r.seen p l).before = lineLevel p r.inForce.rxInv false := by simp [PortRec.seen, turned]
    rw [startSeen, before, lineActive_lineLevel]
    cases p <;> simp [cells, lineActive]

end Sys2Proof.Machine
end

section
/-! PROOFS. The receivers and the floor transmitters: characters, frames, gaps, breaks and the loss of signal
(R120 to R133, R149). -/

-- The text is compiled as a whole: side by side its proofs would need more threads than there is memory for.
set_option Elab.async false

namespace Sys2Proof.Machine

/-! ### The receiver's steps -/

theorem satInc_eq (n : Nat) : satInc n = min (n + 1) 65535 := rfl

namespace PortRec
variable {r : PortRec} {p : Port} {l : LineChar} {c : RxBits}

theorem startSeen_of_reads (read : r.reads p l = some c) : startSeen p r.inForce (r.seen p l) = true := by
  rw [← readLine_isSome]
  exact Option.isSome_of_eq_some read

theorem characterBegins_of_none (read : r.reads p l = none) : r.characterBegins p l = r := by
  have unseen : startSeen p r.inForce (r.seen p l) = false := by
    rw [← readLine_isSome, ← Option.not_isSome_iff_eq_none.mpr read |> Bool.eq_false_iff.mpr]
    rfl
  simp [characterBegins, unseen]

theorem characterBegins_of_some (read : r.reads p l = some c) (free : r.held = none) :
    r.characterBegins p l = { r with partWay := true } := by
  simp [characterBegins, startSeen_of_reads read, free]

theorem characterEnds_of_none (read : r.reads p l = none) : r.characterEnds p l = r := by
  unfold characterEnds
  rw [read]
  split <;> rfl

theorem characterEnds_of_some (read : r.reads p l = some c) (free : r.held = none) :
    r.characterEnds p l =
      if lineHeld p r.inForce l then { r with partWay := true, rxTurned := false, held := some c }
      else { r with partWay := false, rxTurned := false }.finishChar c := by
  simp [characterEnds, free, read]

/-- A character in HUNTING: the start character begins a frame, any other is noise (R125). -/
theorem finishChar_hunting (hunting : r.rx = .hunting) :
    r.finishChar c =
      { r with
        rx := if c.data = startChar then
            .assembling [{ data := c.data, marked := parityError r.inForce.parity c || framingError c }]
          else .hunting
        count :=
          { r.count.marked (parityError r.inForce.parity c) (framingError c) with
            noise := if c.data = startChar then r.count.noise else satInc r.count.noise } } := by
  unfold finishChar
  simp only [hunting]
  by_cases start : c.data = startChar
  · simp only [if_pos start, counted, LineCounters.marked]
  · simp only [if_neg start, counted, LineCounters.marked, hunting]

/-- A character in ASSEMBLING joins the frame (R125). -/
theorem finishChar_assembling {chars : List RxChar} (assembling : r.rx = .assembling chars) :
    r.finishChar c =
      (r.counted fun k => k.marked (parityError r.inForce.parity c) (framingError c)).assemble
        (chars ++ [{ data := c.data, marked := parityError r.inForce.parity c || framingError c }]) := by
  unfold finishChar
  simp only [assembling]

end PortRec

/-! ### A character at a settled part -/

section
variable {s : State} (settled : s.Settled)
include settled

/-- The COMMISSION level of the event comes first, then what the receiver makes of the line. -/
theorem exec_characterReceived_settled (p : Port) (l : LineChar) (ended commission : Bool) :
    exec (.characterReceived p l ended commission) s =
      .next (if s.hears p then
          (s.setPins { s.pins with commission := commission }).setPort p
            (if ended then (s.port p).characterEnds p l else (s.port p).characterBegins p l)
        else s.setPins { s.pins with commission := commission }) := by
  rw [exec_characterReceived, State.actOn_settled settled]
  unfold State.receiveChar
  rw [State.setCommission_hears]
  rfl

theorem exec_characterReceived_deaf {p : Port} {l : LineChar} (deaf : s.hears p = false ∨ (s.port p).reads p l = none)
    (ended commission : Bool) :
    exec (.characterReceived p l ended commission) s = .next (s.setPins { s.pins with commission := commission }) := by
  rw [exec_characterReceived_settled settled]
  obtain quiet | unread := deaf
  · rw [quiet]
    rfl
  · rw [PortRec.characterBegins_of_none unread, PortRec.characterEnds_of_none unread, ite_self]
    have same : (s.setPins { s.pins with commission := commission }).setPort p (s.port p) =
        s.setPins { s.pins with commission := commission } := State.setPort_self _ p
    rw [same, ite_self]

variable {p : Port} {l : LineChar} {c : RxBits} (hears : s.hears p = true) (free : (s.port p).held = none)
  (read : (s.port p).reads p l = some c)
include hears free read

theorem exec_characterReceived_begins (commission : Bool) :
    exec (.characterReceived p l false commission) s =
      .next ((s.setPins { s.pins with commission := commission }).setPort p { s.port p with partWay := true }) := by
  rw [exec_characterReceived_settled settled, if_pos hears, PortRec.characterBegins_of_some read free]
  rfl

theorem exec_characterReceived_holds (held : lineHeld p (s.port p).inForce l = true) (commission : Bool) :
    exec (.characterReceived p l true commission) s =
      .next ((s.setPins { s.pins with commission := commission }).setPort p
        { s.port p with partWay := true, rxTurned := false, held := some c }) := by
  rw [exec_characterReceived_settled settled, if_pos hears, PortRec.characterEnds_of_some read free, if_pos held]
  rfl

theorem exec_characterReceived_ends (dark : lineHeld p (s.port p).inForce l = false) (commission : Bool) :
    exec (.characterReceived p l true commission) s =
      .next ((s.setPins { s.pins with commission := commission }).setPort p
        ({ s.port p with partWay := false, rxTurned := false }.finishChar c)) := by
  rw [exec_characterReceived_settled settled, if_pos hears, PortRec.characterEnds_of_some read free, dark]
  rfl

end

/-- The errors of a finished character in the words of R120. -/
theorem LineCounters.marked_eq (k : LineCounters) (c : RxBits) (par : Bool) :
    k.marked par (Machine.framingError c) =
      { k with
        parityError := if par then min (k.parityError + 1) 65535 else k.parityError
        framingError := if c.stopBit then k.framingError else min (k.framingError + 1) 65535 } := by
  unfold LineCounters.marked Machine.framingError
  cases c.stopBit <;> rfl

/-- Settles O9: what the receiver makes of a character, by what it reads. -/
theorem characterInHunting : Obligations.CharacterInHunting := by
  unfold Obligations.CharacterInHunting
  intro s p l commission settled r pin
  refine ⟨fun deaf ended => exec_characterReceived_deaf settled deaf ended commission,
    fun c read hears free => ⟨exec_characterReceived_begins settled hears free read commission,
      fun dark hunting => ?_⟩⟩
  rw [exec_characterReceived_ends settled hears free read dark,
    PortRec.finishChar_hunting (show ({ s.port p with partWay := false, rxTurned := false } : PortRec).rx = .hunting
      from hunting), LineCounters.marked_eq]
  rfl

/-! ### A frame in assembly -/

theorem encodeFrame_length (f : Frame) : (encodeFrame f).length = f.payload.length + 10 := by
  simp [encodeFrame, headerBytes_length, crcBytes_length]
  omega

/-- The length byte is the eighth character of a frame (12.2). -/
theorem encodeFrame_lengthByte (f : Frame) : (encodeFrame f)[7]? = some (BitVec.ofNat 8 f.payload.length) := rfl

theorem frameSize_eq {chars : List RxChar} {x : RxChar} (lengthByte : chars[7]? = some x) :
    frameSize chars = some (x.data.toNat + 10) := by
  simp [frameSize, lengthByte]

namespace PortRec
variable (r : PortRec) {chars : List RxChar}

/-- What the completion of a frame can change of a port. -/
theorem completeFrame_eq :
    r.completeFrame chars =
      { r with
        rx := (r.completeFrame chars).rx, buffer := (r.completeFrame chars).buffer
        count := { r.count with
          framesReceived := (r.completeFrame chars).count.framesReceived
          damaged := (r.completeFrame chars).count.damaged
          malformed := (r.completeFrame chars).count.malformed } } := by
  unfold completeFrame
  dsimp only
  split
  · rfl
  · split <;> rfl

/-- What a character's joining a frame can change of a port. -/
theorem assemble_eq :
    r.assemble chars =
      { r with
        rx := (r.assemble chars).rx, buffer := (r.assemble chars).buffer
        count := { r.count with
          framesReceived := (r.assemble chars).count.framesReceived
          damaged := (r.assemble chars).count.damaged
          malformed := (r.assemble chars).count.malformed } } := by
  unfold assemble
  split
  · rfl
  · split
    · rfl
    · split
      · exact r.completeFrame_eq
      · rfl

/-- A frame whose size is not known or not reached goes on (R125). -/
theorem assemble_short (short : chars.length < 8 ∨
      ∃ x : RxChar, chars[7]? = some x ∧ x.data.toNat ≤ 48 ∧ chars.length < x.data.toNat + 10) :
    r.assemble chars = { r with rx := .assembling chars } := by
  unfold assemble
  obtain few | ⟨x, lengthByte, fits, fewer⟩ := short
  · have unknown : frameSize chars = none := by simp [frameSize, List.getElem?_eq_none (Nat.le_of_lt_succ few)]
    rw [unknown]
  · rw [frameSize_eq lengthByte]
    exact (if_neg (by simp only [maxPayload]; omega)).trans (if_neg (by omega))

/-- A length byte above 48 is MALFORMED at once (R126). -/
theorem assemble_long {x : RxChar} (lengthByte : chars[7]? = some x) (long : 48 < x.data.toNat) :
    r.assemble chars =
      { r with rx := .hunting, count := { r.count with malformed := satInc r.count.malformed } } := by
  unfold assemble
  rw [frameSize_eq lengthByte]
  exact if_pos (by simp only [maxPayload]; omega)

/-- A frame is complete at the size its length byte sets (R129). -/
theorem assemble_whole {x : RxChar} (lengthByte : chars[7]? = some x) (fits : x.data.toNat ≤ 48)
    (whole : chars.length = x.data.toNat + 10) : r.assemble chars = r.completeFrame chars := by
  unfold assemble
  rw [frameSize_eq lengthByte]
  exact (if_neg (by simp only [maxPayload]; omega)).trans (if_pos whole)

theorem any_marked_eq_false (clean : ∀ x ∈ chars, x.marked = false) : chars.any RxChar.marked = false := by
  rw [List.any_eq_false]
  intro x mem
  simp [clean x mem]

theorem completeFrame_good {f : Frame} (clean : ∀ x ∈ chars, x.marked = false)
    (good : decodeFrame (chars.map RxChar.data) = .good f) :
    r.completeFrame chars =
      { r with rx := .hunting, buffer := some f
               count := { r.count with framesReceived := satInc r.count.framesReceived } } := by
  simp [completeFrame, any_marked_eq_false clean, good, counted]

/-- A marked character or a wrong CRC is DAMAGED (R129). -/
theorem completeFrame_damaged (bad : (∃ x ∈ chars, x.marked = true) ∨
      decodeFrame (chars.map RxChar.data) = .crcMismatch) :
    r.completeFrame chars =
      { r with rx := .hunting, count := { r.count with damaged := satInc r.count.damaged } } := by
  unfold completeFrame
  by_cases mark : chars.any RxChar.marked = true
  · simp only [mark, if_true, counted]
  · have wrong : decodeFrame (chars.map RxChar.data) = .crcMismatch :=
      bad.resolve_left fun ⟨x, mem, marked⟩ => mark (List.any_eq_true.mpr ⟨x, mem, marked⟩)
    simp [mark, wrong, counted]

theorem completeFrame_badScope (clean : ∀ x ∈ chars, x.marked = false)
    (scope : decodeFrame (chars.map RxChar.data) = .badScope) :
    r.completeFrame chars =
      { r with rx := .hunting, count := { r.count with malformed := satInc r.count.malformed } } := by
  simp [completeFrame, any_marked_eq_false clean, scope, counted]

/-- The characters of a frame that fits complete it good (R129, R130). -/
theorem assemble_encoded {f : Frame} (fits : f.payload.length ≤ 48) (clean : ∀ x ∈ chars, x.marked = false)
    (encoded : chars.map RxChar.data = encodeFrame f) :
    r.assemble chars =
      { r with rx := .hunting, buffer := some f
               count := { r.count with framesReceived := satInc r.count.framesReceived } } := by
  have lengthByte : (chars[7]?).map RxChar.data = some (BitVec.ofNat 8 f.payload.length) := by
    rw [← List.getElem?_map, encoded, encodeFrame_lengthByte]
  obtain ⟨x, at7, data⟩ := Option.map_eq_some_iff.mp lengthByte
  have size : x.data.toNat = f.payload.length := by rw [data, lengthByte_toNat fits]
  have whole : chars.length = x.data.toNat + 10 := by
    rw [size, ← encodeFrame_length f, ← encoded, List.length_map]
  rw [r.assemble_whole at7 (by omega) whole, r.completeFrame_good clean]
  rw [encoded, decodeFrame_encodeFrame fits]

end PortRec

/-- A character's start of its own changes no field but the port's (R119). -/
theorem State.setPins_setPort_changes (s : State) (v : Pins) (p : Port) (r : PortRec) :
    s.Changes ((s.setPins v).setPort p r) [.pins, .ports] :=
  ((s.setPins_changes v).mono (by decide)).trans (((s.setPins v).setPort_changes p r).mono (by decide))

theorem State.setPins_setPort_otherPorts (s : State) (v : Pins) (p : Port) (r : PortRec) :
    s.OtherPorts ((s.setPins v).setPort p r) p := fun _ other => (s.setPins v).setPort_port_ne r other

/-- The receiver of a port in assembly once a character is finished: the counters of R120, then the frame. -/
def PortRec.joined (r : PortRec) (c : RxBits) : PortRec :=
  { r with
    partWay := false, rxTurned := false
    count := r.count.marked (parityError r.inForce.parity c) (framingError c) }

/-- Settles O10: the character's errors are counted, then the frame goes on or is complete. -/
theorem completedFramesAreGoodOrCounted : Obligations.CompletedFramesAreGoodOrCounted := by
  unfold Obligations.CompletedFramesAreGoodOrCounted
  intro s p chars l c commission settled hears free assembling read dark r par bad all
  have empty : r.buffer = none := settled.buffers p
  have finished : ({ r with partWay := false, rxTurned := false } : PortRec).finishChar c = (r.joined c).assemble all :=
    PortRec.finishChar_assembling (show ({ r with partWay := false, rxTurned := false } : PortRec).rx = _
      from assembling)
  have stepped := exec_characterReceived_ends settled hears free read dark commission
  rw [finished] at stepped
  refine ⟨_, stepped, State.setPins_setPort_otherPorts s _ p _, State.setPins_setPort_changes s _ p _, rfl, ?_⟩
  rw [State.setPort_port]
  refine ⟨?_, fun short => ?_, fun f fits encoded clean => ?_, fun x lengthByte fits whole wrong => ?_,
    fun x lengthByte fits whole clean scope => ?_, fun seven long => ?_⟩
  · refine ((r.joined c).assemble_eq).trans ?_
    rw [PortRec.joined, LineCounters.marked_eq]
  · rw [(r.joined c).assemble_short short]
    exact ⟨rfl, empty, rfl, rfl, rfl⟩
  · have unmarked : bad = false := clean _ (List.mem_append_right _ (List.mem_singleton_self _))
    obtain ⟨noParity, stop⟩ := Bool.or_eq_false_iff.mp unmarked
    have stopBit : c.stopBit = true := by simpa using stop
    have counters : r.count.marked par (framingError c) = r.count := by
      rw [LineCounters.marked_eq, noParity, stopBit]
      rfl
    rw [(r.joined c).assemble_encoded fits clean encoded, PortRec.joined, counters]
    rfl
  · rw [(r.joined c).assemble_whole lengthByte fits whole, (r.joined c).completeFrame_damaged wrong]
    exact ⟨rfl, empty, rfl, rfl, rfl⟩
  · rw [(r.joined c).assemble_whole lengthByte fits whole, (r.joined c).completeFrame_badScope clean scope]
    exact ⟨rfl, empty, rfl, rfl, rfl⟩
  · have lengthByte : all[7]? = some { data := c.data, marked := bad } := by
      rw [← seven]
      exact List.getElem?_concat_length
    rw [(r.joined c).assemble_long lengthByte long]
    exact ⟨rfl, empty, rfl, rfl, rfl⟩

end Sys2Proof.Machine
end

section
/-! PROOFS. Gaps, breaks, held characters, the floor transmitters and the loss of signal (R122, R123, R127, R130 to
R133, R149, R151). -/

-- The text is compiled as a whole: side by side its proofs would need more threads than there is memory for.
set_option Elab.async false

namespace Sys2Proof.Machine

theorem State.Changes.port {s t : State} {fs : List Field} (h : s.Changes t fs) (ports : .ports ∉ fs) (p : Port) :
    t.port p = s.port p := congrArg (fun v : Tbl 5 PortRec => v.get (portIdx p)) (h.same .ports ports)

/-! ### Gap and BREAK -/

/-- A cell with an active level anywhere reads as 0 on a floor port (R122). -/
theorem readCell_of_active_last {q : FloorPort} {st : Settings} {levels : List Bool}
    (active : levels.getLast?.any (lineActive (.floor q) st.rxInv) = true) : readCell (.floor q) st levels = false := by
  obtain ⟨x, last, lit⟩ := (Option.any_eq_true _ _).mp active
  have mem := List.mem_of_getLast? last
  simp only [readCell, stretch, Bool.not_eq_false', List.any_map, List.any_eq_true]
  exact ⟨x, mem, lit⟩

namespace PortRec
variable {r : PortRec} {q : FloorPort} {l : LineChar} {c : RxBits}

/-- A line still in the pulse state at the end of the stop cell gives a framing error (R122, R123). -/
theorem stopBit_of_lineHeld (read : r.reads (.floor q) l = some c) (held : lineHeld (.floor q) r.inForce l = true) :
    c.stopBit = false := by
  unfold reads readLine at read
  split at read
  case isFalse => exact nomatch read
  case isTrue =>
    obtain rfl := Option.some.inj read
    have cell := readCell_of_active_last held
    have there : characterTime r.inForce.parity - 1 < l.cells.length := by
      by_contra out
      unfold lineHeld at held
      rw [List.getD_eq_default _ _ (Nat.le_of_not_lt out)] at held
      exact nomatch held
    rw [List.getD_eq_getElem _ _ there] at cell
    simp [readCells, seen_cells, there, cell]

theorem gapExpires_assembling {cs : List RxChar} (assembling : r.rx = .assembling cs) (free : r.held = none)
    (whole : r.partWay = false) :
    r.gapExpires = { r with rx := .hunting, count := { r.count with truncated := satInc r.count.truncated } } := by
  simp [gapExpires, assembling, free, whole, LineCounters.abandon]

theorem pulse_bright (r : PortRec) (q : FloorPort) : r.pulse { port := q, level := !r.inForce.rxInv } = true := by
  simp [pulse, lineActive]

theorem pulse_dark (r : PortRec) (q : FloorPort) : r.pulse { port := q, level := r.inForce.rxInv } = false := by
  simp [pulse, lineActive]

theorem breakSeen_bright (able : r.receiving = true) :
    r.breakSeen { port := q, level := !r.inForce.rxInv } =
      { r with
        rx := .broken, partWay := false, rxTurned := false, held := none
        count := { r.count with
          breaks := satInc r.count.breaks
          truncated := if r.rx = .hunting then r.count.truncated else satInc r.count.truncated } } := by
  unfold breakSeen
  rw [able, r.pulse_bright q]
  unfold receiving at able
  cases rx : r.rx with
  | hunting => rfl
  | assembling cs => rfl
  | broken => simp [rx] at able
  | down => simp [rx] at able

theorem breakSeen_dark (r : PortRec) (q : FloorPort) : r.breakSeen { port := q, level := r.inForce.rxInv } = r := by
  simp [breakSeen, r.pulse_dark q]

theorem pulseEnds_bright (r : PortRec) (q : FloorPort) : r.pulseEnds { port := q, level := !r.inForce.rxInv } = r := by
  simp [pulseEnds, r.pulse_bright q]

theorem pulseEnds_broken (broken : r.rx = .broken) :
    r.pulseEnds { port := q, level := r.inForce.rxInv } = { r with rx := .hunting } := by
  simp [pulseEnds, r.pulse_dark q, broken]

/-- A held character that no BREAK absorbs is finished (R123). -/
theorem pulseEnds_held (able : r.receiving = true) (held : r.held = some c) :
    r.pulseEnds { port := q, level := r.inForce.rxInv } =
      { r with partWay := false, rxTurned := false, held := none }.finishChar c := by
  unfold pulseEnds
  rw [r.pulse_dark q]
  unfold receiving at able
  cases rx : r.rx with
  | hunting => simp [held]
  | assembling cs => simp [held]
  | broken => simp [rx] at able
  | down => simp [rx] at able

end PortRec

/-- Settles O11: the gap, the BREAK and the character held between the two. -/
theorem gapAndBreakAbandonTheFrame : Obligations.GapAndBreakAbandonTheFrame := by
  unfold Obligations.GapAndBreakAbandonTheFrame
  intro s settled
  refine ⟨fun p cs assembling free whole => ?_, fun q => ?_⟩
  · rw [exec_gapTimeout, State.act_settled settled, State.updPort, PortRec.gapExpires_assembling assembling free whole]
    rfl
  intro r dark
  have breakAt := fun x : FloorLevel => (exec_breakRecognised x s).trans (State.act_settled settled _)
  have endAt := fun x : FloorLevel => (exec_breakEnd x s).trans (State.act_settled settled _)
  have self : s.setPort (.floor q) r = s := s.setPort_self _
  refine ⟨fun l c commission hears free read held => ⟨PortRec.stopBit_of_lineHeld read held,
      exec_characterReceived_holds settled hears free read held commission⟩,
    fun hears => ?_, ?_, ?_, fun broken => ?_, fun l c hears held read dark => ?_⟩
  · rw [breakAt, State.updPort]
    exact congrArg (fun v => Host.Outcome.next (s.setPort (.floor q) v)) (PortRec.breakSeen_bright hears)
  · rw [breakAt, State.updPort]
    exact congrArg Host.Outcome.next ((congrArg (s.setPort (.floor q)) (r.breakSeen_dark q)).trans self)
  · rw [endAt, State.updPort]
    exact congrArg Host.Outcome.next ((congrArg (s.setPort (.floor q)) (r.pulseEnds_bright q)).trans self)
  · rw [endAt, State.updPort]
    exact congrArg (fun v => Host.Outcome.next (s.setPort (.floor q) v)) (PortRec.pulseEnds_broken broken)
  · have undecided : (s.setPort (.floor q) { r with partWay := true, held := none }).Settled :=
      settled.setPort _ (.inr fun ready => nomatch ready.2.1) (settled.buffers _)
    have port : (s.setPort (.floor q) { r with partWay := true, held := none }).port (.floor q) =
        { r with partWay := true, held := none } := State.setPort_port _ _ _
    have ends := exec_characterReceived_ends (c := c) (l := l) (p := .floor q) undecided
      (by rw [State.hears, port]; exact hears) (by rw [port]) (by rw [port]; exact read) (by rw [port]; exact dark)
      s.pins.commission
    rw [endAt, State.updPort, ends, port]
    have finished : r.pulseEnds { port := q, level := r.inForce.rxInv } =
        { r with partWay := false, rxTurned := false, held := none }.finishChar c := PortRec.pulseEnds_held hears held
    refine congrArg Host.Outcome.next ((congrArg (s.setPort (.floor q)) finished).trans ?_)
    exact (State.setPort_setPort s (.floor q) _ _).symm

/-! ### The floor transmitters (R149) -/

namespace PortRec
variable {r : PortRec}

theorem up_iff (r : PortRec) : r.up = true ↔ r.rx ≠ .down := by simp [up]

theorem chooseTx_hold {g : Frame} (up : r.rx ≠ .down) (idle : r.tx = .idle) (hold : r.hold = some g) :
    r.chooseTx = { r with hold := none, tx := .sending g true } := by
  simp [chooseTx, r.up_iff, up, idle, hold]

theorem chooseTx_queue {g : Frame} {rest : List Frame} (up : r.rx ≠ .down) (idle : r.tx = .idle) (hold : r.hold = none)
    (queue : r.downward = g :: rest) : r.chooseTx = { r with downward := rest, tx := .sending g false } := by
  simp [chooseTx, r.up_iff, up, idle, hold, queue]

theorem chooseTx_none (nothing : r.rx = .down ∨ (r.hold = none ∧ r.downward = [])) : r.chooseTx = r := by
  unfold chooseTx
  split
  · next able =>
    obtain ⟨hold, queue⟩ := nothing.resolve_left ((r.up_iff).mp able.1)
    rw [hold, queue]
  · rfl

/-- A frame being sent keeps the transmitter (R149). -/
theorem chooseTx_busy (busy : r.tx ≠ .idle) : r.chooseTx = r := if_neg fun able => busy able.2

theorem floorSent_sending {f : Frame} {reply : Bool} (sending : r.tx = .sending f reply) :
    r.floorSent =
      { r with tx := .idle, owed := r.owed && !reply
               count := { r.count with framesSent := satInc r.count.framesSent } }.chooseTx := by
  unfold floorSent
  rw [sending]

end PortRec

/-- Settles O12: a frame sent is counted, then the transmitter chooses. -/
theorem floorFrameSentChoosesTheNext : Obligations.FloorFrameSentChoosesTheNext := by
  unfold Obligations.FloorFrameSentChoosesTheNext
  intro s q f reply settled sending r r1
  have stepped : exec (.floorFrameSent q) s =
      .next (s.setPort (.floor q) ({ r1 with tx := .idle } : PortRec).chooseTx) := by
    rw [exec_floorFrameSent, State.act_settled settled, State.updPort, PortRec.floorSent_sending sending]
    rfl
  refine ⟨fun g up hold => ?_, fun g rest up hold queue => ?_, fun nothing => ?_⟩
  · rw [stepped, PortRec.chooseTx_hold (r := { r1 with tx := .idle }) up rfl hold]
  · rw [stepped, PortRec.chooseTx_queue (r := { r1 with tx := .idle }) up rfl hold queue]
  · rw [stepped, PortRec.chooseTx_none (r := { r1 with tx := .idle }) nothing]

/-! ### Loss of signal (R132, R133, R151) -/

theorem LineCounters.abandon_eq (k : LineCounters) (rx : RxState) :
    k.abandon rx =
      { k with truncated := match rx with
          | .assembling _ => min (k.truncated + 1) 65535
          | _ => k.truncated } := by
  cases rx <;> rfl

theorem TxState.isReply_eq (tx : TxState) :
    tx.isReply = match tx with
      | .sending _ reply => reply
      | .idle => false := by
  cases tx <;> rfl

theorem ite_isSome {α β : Type} (o : Option α) (a b : β) [Decidable (o = none)] :
    (if o.isSome = true then a else b) = if o = none then b else a := by
  cases o <;> simp

/-- What raising an event leaves of the ports. -/
theorem State.raise_port (s : State) (e : Event) (p : Port) : (s.raise e).port p = s.port p :=
  (s.raise_changes e).port (by decide) p

section
variable {s : State} {q : FloorPort} {v : Pins} {r : PortRec} (e : Event)

theorem State.pinned_raise_changes :
    s.Changes (((s.setPins v).setPort (.floor q) r).raise e) ([.pins, .ports] ++ reportFields) :=
  ((s.setPins_setPort_changes v _ r).mono (by decide)).trans ((State.raise_changes _ e).mono (by decide))

theorem State.pinned_raise_reports : (s.raise e).SameReports (((s.setPins v).setPort (.floor q) r).raise e) :=
  ((s.setPins_setPort_changes v _ r).sameReports (by decide)).raise e

theorem State.pinned_raise_others : s.OtherPorts (((s.setPins v).setPort (.floor q) r).raise e) (.floor q) :=
  fun p other => (State.raise_port _ e p).trans ((s.setPins v).setPort_port_ne r other)

theorem State.pinned_raise_port : (((s.setPins v).setPort (.floor q) r).raise e).port (.floor q) = r :=
  (State.raise_port _ e _).trans (State.setPort_port _ _ _)

theorem State.pinned_raise_pins : (((s.setPins v).setPort (.floor q) r).raise e).pins = v :=
  (State.raise_changes _ e).same .pins (by decide)

end

/-- Settles O13: the level of the input, then the port's going DOWN or UP with its event. -/
theorem lossOfSignalFollowsTheInput : Obligations.LossOfSignalFollowsTheInput := by
  unfold Obligations.LossOfSignalFollowsTheInput
  intro s q settled r lost back
  have asserted : exec (.losAsserted q) s = .next ((s.setPins lost).signalLost q) := by
    rw [exec_losAsserted, State.actOn_settled settled]
    rfl
  have released : exec (.losReleased q) s = .next ((s.setPins back).signalBack q) := by
    rw [exec_losReleased, State.actOn_settled settled]
    rfl
  have upOf : ∀ v, ((s.setPins v).port (.floor q)).up = true ↔ r.rx ≠ .down := fun _ => r.up_iff
  refine ⟨fun up => ⟨_, asserted, ?_⟩, fun down => ?_, fun down => ⟨_, released, ?_⟩, fun up => ?_⟩
  · rw [State.signalLost, if_pos ((upOf lost).mpr up), State.updPort]
    refine ⟨State.pinned_raise_pins _, (State.pinned_raise_port _).trans ?_, State.pinned_raise_others _,
      State.pinned_raise_reports _, State.pinned_raise_changes _⟩
    simp only [PortRec.goDown, LineCounters.abandon_eq, TxState.isReply_eq, Bool.or_comm, ite_isSome]
    rfl
  · rw [asserted, State.signalLost, if_neg fun up => (upOf lost).mp up down]
  · rw [State.signalBack, if_neg fun up => (upOf back).mp up down, State.updPort]
    refine ⟨State.pinned_raise_pins _, State.pinned_raise_port _, fun _ hold queue => ?_, State.pinned_raise_others _,
      State.pinned_raise_reports _, State.pinned_raise_changes _⟩
    exact (State.pinned_raise_port _).trans (PortRec.chooseTx_none (.inr ⟨hold, queue⟩))
  · rw [released, State.signalBack, if_pos ((upOf back).mpr up)]

end Sys2Proof.Machine
end

section
/-! PROOFS. When settings that wait take effect (R119, R134; log 2, log 3, log 29). -/

-- The text is compiled as a whole: side by side its proofs would need more threads than there is memory for.
set_option Elab.async false

namespace Sys2Proof.Machine

/-! ### At a boundary -/

/-- Folding a map over a list that names `x`: where every other member leaves the state and `x` takes it to one that
no member changes, the fold ends there. -/
theorem foldl_to_fixed {α β : Type} {f : α → β → α} {s t : α} {x : β} (others : ∀ y, y ≠ x → f s y = s)
    (there : f s x = t) (fixed : ∀ y, f t y = t) (l : List β) (mem : x ∈ l) : l.foldl f s = t := by
  have stays : ∀ l : List β, l.foldl f t = t := by
    intro l
    induction l with
    | nil => rfl
    | cons y l ih => rw [List.foldl_cons, fixed, ih]
  induction l with
  | nil => exact nomatch mem
  | cons y l ih =>
    rw [List.foldl_cons]
    by_cases same : y = x
    · rw [same, there, stays]
    · rw [others y same, ih ((List.mem_cons.mp mem).resolve_left (Ne.symm same))]

theorem mem_allPorts (p : Port) : p ∈ allPorts := by
  rcases p with (_ | _ | _ | _) | _ <;> decide

section
variable {s : State} {p : Port} {w : Settings}

theorem State.takeSettings_due (waits : (s.port p).waiting = some w) (ready : (s.port p).Ready) :
    s.takeSettings p = s.setPort p ((s.port p).putInForce w) := by
  have due : (s.port p).settingsDue = true := (PortRec.settingsDue_iff _).mpr ⟨by simp [waits], ready⟩
  simp [State.takeSettings, State.updPort, PortRec.takeSettings, due, waits]

/-- Where settings are all that is due, settling puts them into force (R134, log 1). -/
theorem State.settle_takeSettings (waits : (s.port p).waiting = some w) (ready : (s.port p).Ready)
    (settled : (s.setPort p ((s.port p).putInForce w)).Settled) :
    s.settle = s.setPort p ((s.port p).putInForce w) := by
  have taken : s.settingsAll = s.setPort p ((s.port p).putInForce w) := by
    refine foldl_to_fixed (fun q other => ?_) (State.takeSettings_due waits ready)
      (fun q => State.takeSettings_none (settled.settings q)) allPorts (mem_allPorts p)
    refine State.takeSettings_none ?_
    rw [← s.setPort_port_ne ((s.port p).putInForce w) other]
    exact settled.settings q
  have same : s.settle = (s.setPort p ((s.port p).putInForce w)).settle := by
    unfold State.settle
    rw [taken, State.settingsAll_none settled.settings]
  rw [same, State.settle_of_settled settled]

/-- A step begins with what is due, so it is the same where that is done already (log 1). -/
theorem State.actOn_of_settle {t : State} (settle : s.settle = t) (settled : t.Settled) (power : s.power = t.power)
    (pin f : State → State) : s.actOn pin f = t.actOn pin f := by
  have running : s.running = true := by rw [State.running, power]; exact settled.isRunning
  rw [State.actOn_settled settled]
  simp [State.actOn, running, settle]

theorem State.actFrame_of_settle {t : State} (settle : s.settle = t) (settled : t.Settled) (power : s.power = t.power)
    (buffers : ∀ q, (s.port q).buffer = (t.port q).buffer) (q : Port) (f : Frame) (row : FrameRow) :
    s.actFrame q f row = t.actFrame q f row := by
  unfold State.actFrame State.actFrameAt
  rw [buffers q]
  exact State.actOn_of_settle settle settled power _ _

end

/-! ### The wrong inversion on U (log 29) -/

/-- The cells of a line that stands at a level all the time, as U reads them. -/
theorem readCell_u_constant (st : Settings) (x : Bool) : readCell .u st [x] = (x ^^ st.rxInv) := by
  cases x <;> simp [readCell, lineActive]

/-- Cells that all read as 0 make the character 0 with a framing error (R120). -/
theorem readCells_zeros (parity : Parity) :
    readCells parity (List.replicate (characterTime parity) false) = { data := 0, parityBit := false, stopBit := false } := by
  cases parity <;> rfl

theorem parityError_zero (parity : Parity) :
    parityError parity { data := 0, parityBit := false, stopBit := false } = decide (parity = .odd) := by
  cases parity <;> rfl

/-- The line of U standing at its idle level of before, for one character time. -/
def stillLine (idle : Bool) (parity : Parity) : LineChar :=
  { before := idle, cells := List.replicate (characterTime parity) [idle] }

section
variable {r : PortRec} {idle : Bool} (wrong : r.inForce.rxInv = idle)
include wrong

/-- Just after the change the still line shows a start bit and ten or eleven cells of space. -/
theorem PortRec.reads_still_turned (turned : r.rxTurned = true) :
    r.reads .u (stillLine idle r.inForce.parity) = some { data := 0, parityBit := false, stopBit := false } := by
  have space : ((stillLine idle r.inForce.parity).cells.headD []).head?.any (lineActive .u r.inForce.rxInv) = true := by
    cases parity : r.inForce.parity <;> simp [stillLine, characterTime, List.replicate, lineActive, wrong]
  rw [PortRec.reads_of_turned turned space]
  simp only [stillLine, List.map_replicate, readCell_u_constant, wrong, Bool.xor_self, readCells_zeros]

/-- Once a character was received, a line that does not change begins none (R124). -/
theorem PortRec.reads_still_steady (steady : r.rxTurned = false) (parity : Parity) :
    r.reads .u (stillLine idle parity) = none := by
  rw [PortRec.reads_of_not_turned steady]
  exact readLine_of_active_before (by simp [stillLine, lineActive, wrong])

end

/-- The character 0 at a receiver in HUNTING is noise with a framing error (R120, R125). -/
theorem PortRec.finishChar_zero {r : PortRec} {w : Settings} (hunting : r.rx = .hunting) (whole : r.partWay = false) :
    ({ r.putInForce w with partWay := false, rxTurned := false } : PortRec).finishChar
        { data := 0, parityBit := false, stopBit := false } =
      { r with
        inForce := w, waiting := none, rxTurned := false
        count := { r.count with
          noise := min (r.count.noise + 1) 65535
          framingError := min (r.count.framingError + 1) 65535
          parityError := if w.parity = .odd then min (r.count.parityError + 1) 65535 else r.count.parityError } } := by
  have noise : ¬ (0 : Byte) = startChar := by decide
  rw [PortRec.finishChar_hunting (r := { r.putInForce w with partWay := false, rxTurned := false }) hunting,
    if_neg noise, if_neg noise, LineCounters.marked_eq, parityError_zero, hunting, whole]
  simp [PortRec.putInForce, satInc_eq]

/-! ### Part way through a character -/

/-- A port keeps its settings, those that wait, and its place in a character. -/
def PortRec.KeepsSettings (r t : PortRec) : Prop :=
  t.inForce = r.inForce ∧ t.waiting = r.waiting ∧ t.partWay = r.partWay

theorem PortRec.KeepsSettings.refl (r : PortRec) : r.KeepsSettings r := ⟨rfl, rfl, rfl⟩

theorem PortRec.chooseTx_keepsSettings (r : PortRec) : r.KeepsSettings r.chooseTx := by
  unfold PortRec.chooseTx
  split
  · split <;> exact ⟨rfl, rfl, rfl⟩
  · exact .refl r

theorem PortRec.handReply_keepsSettings (r : PortRec) (f : Frame) : r.KeepsSettings (r.handReply f) := by
  unfold PortRec.handReply
  split
  · exact PortRec.chooseTx_keepsSettings { r with hold := some f }
  · exact ⟨rfl, rfl, rfl⟩

theorem PortRec.finishChar_keepsSettings (r : PortRec) (c : RxBits) : r.KeepsSettings (r.finishChar c) := by
  cases rx : r.rx with
  | hunting => rw [PortRec.finishChar_hunting rx]; exact ⟨rfl, rfl, rfl⟩
  | assembling cs => rw [PortRec.finishChar_assembling rx, PortRec.assemble_eq]; exact ⟨rfl, rfl, rfl⟩
  | broken => simp only [PortRec.finishChar, rx]; exact .refl r
  | down => simp only [PortRec.finishChar, rx]; exact .refl r

section
variable (s : State) (p : Port)

/-- A change of one port's record keeps the settings of all if it keeps those of that port. -/
theorem State.updPort_keepsSettings (q : Port) (f : PortRec → PortRec) (kept : (s.port q).KeepsSettings (f (s.port q))) :
    (s.port p).KeepsSettings ((s.updPort q f).port p) := by
  by_cases same : p = q
  · rw [same, State.updPort, State.setPort_port]
    exact kept
  · rw [State.updPort, State.setPort_port_ne _ _ same]
    exact .refl _

theorem State.serviceEnds_keepsSettings : (s.port p).KeepsSettings (s.serviceEnds.port p) := by
  unfold State.serviceEnds
  split
  case h_2 => exact .refl _
  case h_1 q f serving =>
    unfold State.handReply
    split
    · exact State.updPort_keepsSettings (s.setMgmt .idle) p _ _ (PortRec.handReply_keepsSettings _ f)
    · rw [(State.joinReplies_changes _ _ _).port (by decide)]
      exact .refl _

theorem State.uStarts_keepsSettings : (s.port p).KeepsSettings (s.uStarts.port p) := by
  unfold State.uStarts
  dsimp only
  split
  · exact .refl _
  · split
    · exact State.updPort_keepsSettings s p .u (fun r => { r with tx := .sending _ false }) ⟨rfl, rfl, rfl⟩
    · exact .refl _

end

/-- Settles O14: before the boundary, at it, and part way through a character. -/
theorem settingsTakeEffectAtABoundary : Obligations.SettingsTakeEffectAtABoundary := by
  unfold Obligations.SettingsTakeEffectAtABoundary
  intro s p r
  have notDue : s.power = .running → r.waiting = none ∨ ¬ r.Ready → exec (.settingsTakeEffect p) s = .next s := by
    intro running off
    rw [exec_settingsTakeEffect, State.actDue, PortRec.settingsDue_of_not off, Bool.and_false]
    rfl
  refine ⟨notDue, fun w running waits ready => ?_, fun settled partWay w waits => ⟨?_, ?_⟩⟩
  · intro turned s1
    have due : r.settingsDue = true := (PortRec.settingsDue_iff r).mpr ⟨by simp [waits], ready⟩
    have settle : s1.Settled → s.settle = s1 := State.settle_takeSettings waits ready
    have early : s1.Settled → ∀ (q : Port) (g : FloorPort) (l : LineChar) (ended commission : Bool) (e : Envelope)
        (payload : List Byte), ∀ i ∈ [Instr.characterReceived q l ended commission, .gapTimeout q,
          .uTransmitStart, .uFrameSent, .floorFrameSent g, .nodeCmd e payload, .sample g e payload,
          .secondsTick, .serviceCompletion, .losReleased g], exec i s = exec i s1 := by
      intro settled q g l ended commission e payload i mem
      have buffers : ∀ q, (s.port q).buffer = (s1.port q).buffer := by
        intro q
        by_cases same : q = p
        · rw [same, State.setPort_port]
        · rw [State.setPort_port_ne _ _ same]
      have act := State.actOn_of_settle (settle settled) settled rfl
      have frame := State.actFrame_of_settle (settle settled) settled rfl buffers
      simp only [List.mem_cons, List.not_mem_nil, or_false] at mem
      obtain rfl | rfl | rfl | rfl | rfl | rfl | rfl | rfl | rfl | rfl := mem
      · exact act (State.setCommission commission) fun s => s.receiveChar q l ended
      · exact act id fun s => s.updPort q PortRec.gapExpires
      · exact act id State.uStarts
      · exact act id State.uSent
      · exact act id fun s => s.updPort (.floor g) PortRec.floorSent
      · exact frame .u (frameOf .nodeCmd e payload) .nodeCmd
      · exact frame (.floor g) (frameOf .sample e payload) .sample
      · exact act id State.tick
      · exact act id State.serviceEnds
      · exact act (State.setLos g false) fun s => s.signalBack g
    refine ⟨?_, early, fun settled onU changed commission => ?_⟩
    · rw [exec_settingsTakeEffect, State.actDue_due running due, State.takeSettings_due waits ready]
      rfl
    · subst onU
      intro idle still pin t
      obtain ⟨hunting, whole, free, quiet, -⟩ := ready
      have record : s1.port .u = r.putInForce w := State.setPort_port _ _ _
      have wrong : w.rxInv = idle := (Bool.eq_not_of_ne (of_decide_eq_true changed))
      have hears : s1.hears .u = true := by
        have rx : (r.putInForce w).rx = .hunting := hunting
        have tx : (r.putInForce w).tx = .idle := quiet
        simp [State.hears, record, PortRec.receiving, rx, tx]
      have read : (s1.port .u).reads .u (stillLine idle w.parity) =
          some { data := 0, parityBit := false, stopBit := false } := by
        rw [record]
        exact PortRec.reads_still_turned (r := r.putInForce w) wrong
          (show (r.rxTurned || turned) = true by rw [changed, Bool.or_true])
      have merged (y : PortRec) : (s1.setPins pin).setPort .u y = (s.setPins pin).setPort .u y :=
        State.setPort_setPort (s.setPins pin) .u _ y
      have first : exec still s = .next t := by
        have settling : exec still s = exec still s1 :=
          State.actOn_of_settle (settle settled) settled rfl (State.setCommission commission)
            fun s => s.receiveChar .u (stillLine idle w.parity) true
        have ends := exec_characterReceived_ends settled hears (by rw [record]; exact free) read rfl commission
        rw [record, PortRec.finishChar_zero hunting whole] at ends
        exact settling.trans (ends.trans (congrArg Host.Outcome.next (merged _)))
      have buffer : r.buffer = none := by
        have empty := settled.buffers .u
        rw [record] at empty
        exact empty
      have stays (y : PortRec) (nothing : y.waiting = none) (empty : y.buffer = none) :
          ((s.setPins pin).setPort .u y).Settled :=
        merged y ▸ (settled.setPins pin).setPort .u (.inl nothing) empty
      have after : t.Settled := stays _ rfl buffer
      have unread : (t.port .u).reads .u (stillLine idle w.parity) = none := by
        rw [State.setPort_port]
        exact PortRec.reads_still_steady wrong rfl w.parity
      exact ⟨first, exec_characterReceived_deaf after (.inr unread) true commission⟩
  · intro q l ended commission other i mem
    have kept : ∀ {t : State}, exec i s = .next t → r.KeepsSettings (t.port p) → ∃ t, exec i s = .next t ∧
        (t.port p).inForce = r.inForce ∧ (t.port p).waiting = some w ∧ (t.port p).partWay = true :=
      fun stepped ⟨inForce, waiting, place⟩ =>
        ⟨_, stepped, inForce, waiting.trans waits, place.trans partWay⟩
    have act (f : State → State) := State.act_settled settled f
    simp only [List.mem_cons, List.not_mem_nil, or_false] at mem
    obtain rfl | rfl | rfl | rfl | rfl | rfl := mem
    · refine kept (act State.tick) ?_
      rw [s.tick_changes.port (by decide)]
      exact .refl r
    · exact kept (act State.serviceEnds) (s.serviceEnds_keepsSettings p)
    · refine kept (exec_characterReceived_settled settled q l ended commission) ?_
      split
      · rw [State.setPort_port_ne _ _ (Ne.symm other)]
        exact .refl r
      · exact .refl r
    · refine kept (act fun s => s.updPort p PortRec.gapExpires) (s.updPort_keepsSettings p p _ ?_)
      have gap : r.gapExpires = r := by simp [PortRec.gapExpires, partWay]
      exact gap ▸ PortRec.KeepsSettings.refl r
    · exact kept (act State.uStarts) (s.uStarts_keepsSettings p)
    · refine kept (notDue settled.running (.inr fun ready => ?_)) (.refl r)
      obtain ⟨-, whole, -⟩ := ready
      exact absurd (partWay.symm.trans whole) (by decide)
  · intro l c commission hears free read dark
    obtain ⟨inForce, waiting, place⟩ :=
      ({ r with partWay := false, rxTurned := false } : PortRec).finishChar_keepsSettings c
    refine ⟨_, exec_characterReceived_ends settled hears free read dark commission, ?_⟩
    rw [State.setPort_port]
    refine ⟨inForce, waiting.trans waits, place, fun hunting start => ?_⟩
    rw [PortRec.finishChar_hunting (show ({ s.port p with partWay := false, rxTurned := false } : PortRec).rx = .hunting
      from hunting)]
    exact if_pos start

end Sys2Proof.Machine
end

section
/-! PROOFS. The router: frames dropped and counted, forwarded, copied to the floor, and requests that meet a reply owed
or a busy engine (R139 to R149, R156, R173). -/

-- The text is compiled as a whole: side by side its proofs would need more threads than there is memory for.
set_option Elab.async false

namespace Sys2Proof.Machine

/-! ### Rows of a frame -/

theorem FrameKind.ofCode_eq_none {k : BitVec 4} (unknown : k = 0 ∨ 11 ≤ k.toNat) : FrameKind.ofCode k = none := by
  revert k
  decide

/-- The row of a frame from U that is addressed to this unit or to all (R145 to R147). -/
theorem supervisorRow_heard {own : BitVec 4} {f : Frame} (supervisor : f.env.srcUnit = 0)
    (heard : f.env.dstUnit = own ∨ f.env.dstUnit = 15) :
    supervisorRow own f =
      match FrameKind.ofCode f.kind with
      | none => .unknownKind
      | some .grant => if f.env.dstUnit = own ∧ f.env.dstScope = .unit then .grant else .misdirected
      | some .mgmtReq =>
        if f.env.dstUnit = own ∧ f.env.dstScope = .unit then .mgmt (requestRow f.payload) else .misdirected
      | some .poll => if f.env.dstUnit = own then .poll else .misdirected
      | some .nodeCmd => if f.env.dstScope = .unit then .misdirected else .nodeCmd
      | some _ => .misdirected := by
  unfold supervisorRow
  exact (if_neg (by simp [supervisor])).trans (if_neg (by tauto))

theorem supervisorRow_foreign {own : BitVec 4} {f : Frame}
    (other : f.env.srcUnit ≠ 0 ∨ (f.env.dstUnit ≠ own ∧ f.env.dstUnit ≠ 15)) : supervisorRow own f = .foreign := by
  unfold supervisorRow
  obtain station | unit := other
  · rw [if_pos station]
  · rw [if_pos unit, ite_self]

section
variable {s : State} {f : Frame} {row : FrameRow}

theorem State.routeFrame_u : supervisorRow s.unitNo f = row →
    s.routeFrame .u f =
      match row with
      | .foreign => s
      | .grant => s.takeGrant f
      | .poll => s.takePoll f
      | .nodeCmd => s.routeNodeCmd f
      | .mgmt _ => s.routeRequest .u f
      | .unknownKind => s.unknownKind .u
      | .misdirected => s.misdirect .u
      | .sample | .nodeStatus => s := by
  intro h
  subst h
  unfold State.routeFrame State.routeSupervisor
  cases supervisorRow s.unitNo f <;> rfl

/-- The source that the router rewrites does not change a frame's row (R139). -/
theorem State.routeFrame_floor {q : FloorPort} : floorRow f = row →
    s.routeFrame (.floor q) f =
      match row with
      | .sample => s.routeSample q (rewriteSource s.unitNo q f)
      | .nodeStatus => s.routeNodeStatus q (rewriteSource s.unitNo q f)
      | .mgmt _ => s.routeRequest (.floor q) (rewriteSource s.unitNo q f)
      | .unknownKind => s.unknownKind (.floor q)
      | .misdirected => s.misdirect (.floor q)
      | .foreign | .nodeCmd | .grant | .poll => s := by
  intro h
  subst h
  have same : floorRow (rewriteSource s.unitNo q f) = floorRow f := rfl
  unfold State.routeFrame State.routeFloor
  dsimp only
  generalize floorRow (rewriteSource s.unitNo q f) = row at same ⊢
  subst same
  cases floorRow f <;> rfl

end

/-! ### Frames dropped, counted and forwarded -/

section
variable {s : State} (settled : s.Settled) {p : Port} {f : Frame}
include settled

theorem State.actFrame_misdirected (hears : s.hears p = true) (row : frameRow s.unitNo p f = .misdirected) :
    s.actFrame p f .misdirected = .next (s.countRouter p fun k =>
      { k with misdirected := min (k.misdirected + 1) 65535 }) := by
  rw [State.actFrame_settled settled hears row]
  cases p with
  | floor q => rw [State.routeFrame_floor row]; rfl
  | u => rw [State.routeFrame_u row]; rfl

theorem State.actFrame_unknownKind (hears : s.hears p = true) (row : frameRow s.unitNo p f = .unknownKind) :
    s.actFrame p f .unknownKind = .next (s.countRouter p fun k =>
      { k with unknownKind := min (k.unknownKind + 1) 65535 }) := by
  rw [State.actFrame_settled settled hears row]
  cases p with
  | floor q => rw [State.routeFrame_floor row]; rfl
  | u => rw [State.routeFrame_u row]; rfl

variable {q : FloorPort} {e : Envelope} {payload : List Byte} (hears : s.hears (.floor q) = true)
include hears

theorem exec_sample_settled : exec (.sample q e payload) s =
    .next (if e.srcNode = 0 then s.misdirect (.floor q)
      else s.sampleArrives (floorSelector q e.srcNode) (rewriteSource s.unitNo q (frameOf .sample e payload))) := by
  have row : frameRow s.unitNo (.floor q) (frameOf .sample e payload) = .sample := rfl
  rw [exec_sample, State.actFrame_settled settled hears row]
  exact congrArg Host.Outcome.next (State.routeFrame_floor (f := frameOf .sample e payload) (row := .sample) row)

theorem exec_nodeStatus_settled : exec (.nodeStatus q e payload) s =
    .next (if e.srcNode = 0 then s.misdirect (.floor q)
      else if (s.desc (floorSelector q e.srcNode)).config.isSome then
        s.offerFq (rewriteSource s.unitNo q (frameOf .nodeStatus e payload))
      else s.count fun c => { c with unknownSource := satInc c.unknownSource }) := by
  have row : frameRow s.unitNo (.floor q) (frameOf .nodeStatus e payload) = .nodeStatus := rfl
  rw [exec_nodeStatus, State.actFrame_settled settled hears row]
  exact congrArg Host.Outcome.next (State.routeFrame_floor (f := frameOf .nodeStatus e payload) (row := .nodeStatus) row)

end

section
variable {s : State} {f : Frame}

theorem State.sampleArrives_vacant {sel : Selector} (vacant : (s.desc sel).config = none) :
    s.sampleArrives sel f = s.count fun c => { c with unknownSource := satInc c.unknownSource } := by
  unfold State.sampleArrives
  rw [vacant]

/-- A frame offered to a forward queue with room joins it, else it is dropped and counted (R165). -/
theorem State.offerFq_room (room : s.turn.fq.length < 32) :
    s.offerFq f = s.setTurn { s.turn with fq := s.turn.fq ++ [f] } := congrArg s.setTurn (if_pos room)

theorem State.offerFq_full (full : 32 ≤ s.turn.fq.length) :
    s.offerFq f = s.setTurn { s.turn with forwardDrop := satInc s.turn.forwardDrop } :=
  congrArg s.setTurn (if_neg (Nat.not_lt.mpr full))

end

theorem floorRow_misdirected {f : Frame} (kind : f.kind ∈ [3#4, 4#4, 5#4, 7#4, 8#4, 9#4, 10#4] ∨
    (f.kind = 6 ∧ f.env.dstScope ≠ .unit)) : floorRow f = .misdirected := by
  unfold floorRow
  simp only [List.mem_cons, List.not_mem_nil, or_false] at kind
  obtain (kind | kind | kind | kind | kind | kind | kind) | ⟨kind, scope⟩ := kind
  case inr => simp [kind, FrameKind.ofCode, scope]
  all_goals simp [kind, FrameKind.ofCode]

theorem supervisorRow_misdirected {own : BitVec 4} {f : Frame} (supervisor : f.env.srcUnit = 0)
    (heard : f.env.dstUnit = own ∨ f.env.dstUnit = 15)
    (kind : (f.kind ∈ [8#4, 6#4] ∧ (f.env.dstUnit ≠ own ∨ f.env.dstScope ≠ .unit)) ∨
      (f.kind = 10 ∧ f.env.dstUnit ≠ own) ∨ (f.kind = 3 ∧ f.env.dstScope = .unit) ∨
      f.kind ∈ [1#4, 2#4, 4#4, 5#4, 7#4, 9#4]) : supervisorRow own f = .misdirected := by
  rw [supervisorRow_heard supervisor heard]
  simp only [List.mem_cons, List.not_mem_nil, or_false] at kind
  obtain ⟨kind | kind, other⟩ | ⟨kind, other⟩ | ⟨kind, scope⟩ | kind | kind | kind | kind | kind | kind := kind
  case inl.inl => simp only [kind, FrameKind.ofCode]; exact if_neg (by tauto)
  case inl.inr => simp only [kind, FrameKind.ofCode]; exact if_neg (by tauto)
  case inr.inl => simp only [kind, FrameKind.ofCode]; exact if_neg other
  case inr.inr.inl => simp only [kind, FrameKind.ofCode]; exact if_pos scope
  all_goals simp [kind, FrameKind.ofCode]

/-- Settles O15: the row of each frame, then what the router makes of it. -/
theorem floorFramesAreForwardedOrCounted : Obligations.FloorFramesAreForwardedOrCounted := by
  unfold Obligations.FloorFramesAreForwardedOrCounted
  intro s settled
  refine ⟨fun f hears other => ?_, fun p f hears unknown addressed => ?_, fun q f hears kind => ?_,
    fun f hears supervisor heard kind => ?_, fun q e payload hears => ⟨fun null => ?_, fun node vacant => ?_⟩,
    fun q e payload hears => ?_⟩
  · have row := supervisorRow_foreign other
    rw [exec_foreignFrameIgnored, State.actFrame_settled settled hears row, State.routeFrame_u row]
  · rw [exec_unknownKindFrame]
    refine State.actFrame_unknownKind settled hears ?_
    have none := FrameKind.ofCode_eq_none unknown
    cases p with
    | floor q => simp [frameRow, floorRow, none]
    | u =>
      obtain ⟨supervisor, heard⟩ := addressed rfl
      rw [frameRow, supervisorRow_heard supervisor heard, none]
  · rw [exec_misdirectedFrame]
    exact State.actFrame_misdirected settled hears (floorRow_misdirected kind)
  · rw [exec_misdirectedFrame]
    exact State.actFrame_misdirected settled hears (supervisorRow_misdirected supervisor heard kind)
  · rw [exec_sample_settled settled hears, if_pos null]
    rfl
  · rw [exec_sample_settled settled hears, if_neg node, State.sampleArrives_vacant vacant]
    rfl
  · intro sel f
    have stepped := exec_nodeStatus_settled (e := e) (payload := payload) settled hears
    have isSome : (s.desc sel).config ≠ none → (s.desc sel).config.isSome = true := Option.isSome_iff_ne_none.mpr
    refine ⟨fun null => ?_, fun node vacant => ?_, fun node present room => ?_, fun node present full => ?_⟩
    · rw [stepped, if_pos null]
      rfl
    · rw [stepped, if_neg node, vacant]
      rfl
    · rw [stepped, if_neg node, if_pos (isSome present), State.offerFq_room room]
      rfl
    · rw [stepped, if_neg node, if_pos (isSome present), State.offerFq_full full]
      rfl

/-! ### NODE_CMD (R148) -/

theorem mem_scopePorts (scope : Scope) (q : FloorPort) :
    q ∈ scopePorts scope ↔ scope = floorScope q ∨ scope = .allfloor := by
  cases scope <;> cases q <;> decide

theorem scopePorts_nodup (scope : Scope) : (scopePorts scope).Nodup := by cases scope <;> decide

theorem State.updPort_port_ne (s : State) {p q : Port} (f : PortRec → PortRec) (h : q ≠ p) :
    (s.updPort p f).port q = s.port q := s.setPort_port_ne _ h

/-- Changing each floor port of a list in its turn changes each by its own record. -/
theorem foldl_updPort (f : PortRec → PortRec) {l : List FloorPort} (distinct : l.Nodup) (s : State) (p : Port) :
    (l.foldl (fun s q => s.updPort (.floor q) f) s).port p =
      if ∃ q ∈ l, p = .floor q then f (s.port p) else s.port p := by
  induction l generalizing s with
  | nil => simp
  | cons q l ih =>
    obtain ⟨fresh, distinct⟩ := List.nodup_cons.mp distinct
    rw [List.foldl_cons, ih distinct]
    by_cases same : p = .floor q
    · have absent : ¬ ∃ x ∈ l, p = .floor x := by
        rintro ⟨x, mem, eq⟩
        exact fresh (by rwa [Port.floor.inj (same.symm.trans eq)])
      rw [if_neg absent, if_pos ⟨q, List.mem_cons_self .., same⟩, same, State.updPort, State.setPort_port]
    · rw [State.updPort_port_ne s f same]
      simp [same]

section
variable {r : PortRec} {f : Frame}

/-- A copy for a port that is DOWN or whose queue is full is dropped and counted (R148). -/
theorem PortRec.joinDownward_drop (off : r.rx = .down ∨ 4 ≤ r.downward.length) :
    r.joinDownward f = { r with router := { r.router with downwardDrop := satInc r.router.downwardDrop } } := by
  refine if_neg fun able => ?_
  obtain ⟨up, room⟩ := able
  exact off.elim ((r.up_iff).mp up) (Nat.not_le.mpr room)

theorem PortRec.joinDownward_room (up : r.rx ≠ .down) (room : r.downward.length < 4) :
    r.joinDownward f = { r with downward := r.downward ++ [f] }.chooseTx := if_pos ⟨(r.up_iff).mpr up, room⟩

end

/-- Settles O16: the copies, one port at a time. -/
theorem nodeCmdIsCopiedPortByPort : Obligations.NodeCmdIsCopiedPortByPort := by
  unfold Obligations.NodeCmdIsCopiedPortByPort
  intro s e payload settled hears supervisor heard scope f
  have row : supervisorRow s.unitNo f = .nodeCmd := by
    rw [supervisorRow_heard supervisor heard]
    exact if_neg scope
  have stepped : exec (.nodeCmd e payload) s = .next (s.routeNodeCmd f) := by
    have arrives : frameRow s.unitNo .u (frameOf .nodeCmd e payload) = .nodeCmd := row
    rw [exec_nodeCmd, State.actFrame_settled settled hears arrives]
    exact congrArg Host.Outcome.next (State.routeFrame_u row)
  have port (p : Port) := foldl_updPort (fun r => r.joinDownward f) (scopePorts_nodup e.dstScope) s p
  have changes : s.Changes (s.routeNodeCmd f) [.ports] :=
    State.Changes.foldl (fun t q => t.updPort_changes (.floor q) _) _ s
  refine ⟨_, stepped, (port .u).trans (if_neg (by simp)), changes, fun q => ?_⟩
  intro r
  refine ⟨fun not notAll => ?_, fun named => ?_⟩
  · refine (port (.floor q)).trans (if_neg ?_)
    rintro ⟨x, mem, eq⟩
    obtain rfl := Port.floor.inj eq
    exact ((mem_scopePorts _ _).mp mem).elim not notAll
  · have copied : (s.routeNodeCmd f).port (.floor q) = r.joinDownward f :=
      (port (.floor q)).trans (if_pos ⟨q, (mem_scopePorts _ _).mpr named, rfl⟩)
    rw [copied]
    refine ⟨fun off => ?_, fun up room busy => ?_, fun up idle hold queue => ?_⟩
    · rw [PortRec.joinDownward_drop off]
      rfl
    · rw [PortRec.joinDownward_room up room, PortRec.chooseTx_busy (r := { r with downward := r.downward ++ [f] }) busy]
    · have room : r.downward.length < 4 := by rw [queue]; decide
      rw [PortRec.joinDownward_room up room,
        PortRec.chooseTx_queue (r := { r with downward := r.downward ++ [f] }) up idle hold (by rw [queue]; rfl)]
      exact congrArg (fun d => { r with tx := .sending f false, downward := d }) queue.symm

end Sys2Proof.Machine
end

section
/-! PROOFS. Requests that meet a reply owed or a busy engine, and how a sample's payload is read (R3, R7, R8, R11, R142,
R156, R173). -/

-- The text is compiled as a whole: side by side its proofs would need more threads than there is memory for.
set_option Elab.async false

namespace Sys2Proof.Machine

/-! ### A request at the router -/

/-- The request frame as the router hands it on: a floor port's source is rewritten (R139). -/
def State.requestArrival (s : State) (p : Port) (e : Envelope) (payload : List Byte) : Frame :=
  match p with
  | .floor q => rewriteSource s.unitNo q (frameOf .mgmtReq e payload)
  | .u => frameOf .mgmtReq e payload

section
variable {s : State} (settled : s.Settled) {p : Port} (hears : s.hears p = true) {e : Envelope}
  (addressed : s.Addressed p e) {payload : List Byte}
include settled hears addressed

/-- A request frame reaches `State.routeRequest` under the COMMISSION level of its event. -/
theorem State.actFrameAt_request (commission : Bool) :
    s.actFrameAt (State.setCommission commission) p (frameOf .mgmtReq e payload) (.mgmt (requestRow payload)) =
      .next ((s.setPins { s.pins with commission := commission }).routeRequest p (s.requestArrival p e payload)) := by
  have pinned : (s.setCommission commission).Addressed p e := addressed
  have row := frameRow_mgmt (payload := payload) pinned
  rw [State.actFrameAt_settled settled _ (by simpa using hears) row, State.routeFrame_mgmt pinned]
  cases p <;> rfl

end

/-- Every request row is a request frame whose operands spell the row (12.5). -/
theorem exec_requestRows {p : Port} {table : Byte} {r : MgmtOperand} {i : Instr} (mem : i ∈ requestRows p table r)
    (s : State) :
    ∃ table' : Byte, exec i s =
      let payload := requestPayload (commandCode i) table' (rowIndex i r) r
      s.actFrameAt (State.setCommission r.commission) p (frameOf .mgmtReq r.env payload) (.mgmt (requestRow payload)) := by
  simp only [requestRows, List.mem_cons, List.not_mem_nil, or_false] at mem
  obtain rfl | rfl | rfl | rfl | rfl | rfl | rfl | rfl | rfl | rfl | rfl | rfl | rfl | rfl | rfl | rfl | rfl | rfl |
    rfl | rfl | rfl | rfl | rfl | rfl | rfl | rfl := mem
  · exact ⟨table, rfl⟩
  · exact ⟨1, rfl⟩
  · exact ⟨4, rfl⟩
  · exact ⟨4, rfl⟩
  · exact ⟨5, rfl⟩
  · exact ⟨5, rfl⟩
  · exact ⟨6, rfl⟩
  · exact ⟨7, rfl⟩
  · exact ⟨8, rfl⟩
  · exact ⟨8, rfl⟩
  · exact ⟨8, rfl⟩
  · exact ⟨table, rfl⟩
  · exact ⟨table, rfl⟩
  · exact ⟨1, rfl⟩
  · exact ⟨2, rfl⟩
  · exact ⟨3, rfl⟩
  · exact ⟨4, rfl⟩
  · exact ⟨5, rfl⟩
  · exact ⟨6, rfl⟩
  · exact ⟨1, rfl⟩
  · exact ⟨2, rfl⟩
  · exact ⟨3, rfl⟩
  · exact ⟨4, rfl⟩
  · exact ⟨5, rfl⟩
  · exact ⟨6, rfl⟩
  · exact ⟨table, rfl⟩

theorem exec_malformedRequest_row {payload : List Byte} (other : OtherRequest payload) (p : Port) (e : Envelope)
    (commission : Bool) (s : State) :
    exec (.malformedRequest p e commission payload) s =
      s.actFrameAt (State.setCommission commission) p (frameOf .mgmtReq e payload) (.mgmt (requestRow payload)) := by
  rw [exec_malformedRequest, (requestRow_malformed_iff payload).mpr other]

/-! ### A reply still owed (R142, R156) -/

/-- A request on a port that owes a reply is dropped and counted, whatever it carries. -/
theorem State.routeRequest_owed {s : State} {p : Port} (owed : (s.port p).owed = true) (f : Frame) :
    s.routeRequest p f =
      match p with
      | .floor _ => s.countRouter p fun k => { k with requestOverrun := min (k.requestOverrun + 1) 65535 }
      | .u => { s with turn := { s.turn with requestOverrun := min (s.turn.requestOverrun + 1) 65535 } } := by
  unfold State.routeRequest
  rw [if_pos owed]
  cases p <;> rfl

/-- Settles O17: each row is a request frame, and the router drops it. -/
theorem requestWhileReplyOwedIsDropped : Obligations.RequestWhileReplyOwedIsDropped := by
  unfold Obligations.RequestWhileReplyOwedIsDropped
  intro s p e commission settled hears addressed owed s1 dropped
  have drops (payload : List Byte) :
      s.actFrameAt (State.setCommission commission) p (frameOf .mgmtReq e payload) (.mgmt (requestRow payload)) =
        .next dropped := by
    rw [State.actFrameAt_request settled hears addressed]
    refine congrArg Host.Outcome.next ((State.routeRequest_owed (s := s1) owed _).trans ?_)
    cases p <;> rfl
  refine ⟨fun table r env level i mem => ?_, fun payload other => ?_⟩
  · subst env level
    obtain ⟨table', row⟩ := exec_requestRows mem s
    exact row.trans (drops _)
  · exact (exec_malformedRequest_row other p e commission s).trans (drops payload)

/-! ### A busy engine (R173) -/

/-- A reply to whatever payload there is; what it is too short to hold is 0 (R177). -/
theorem State.replyFrame_echo (s : State) (p : Port) (e : Envelope) (commission : Bool) (payload : List Byte)
    (st : Status) :
    s.replyFrame (requestRecord p e commission payload) (echoPayload payload st) =
      replyTo s.unitNo p e (payload.getD 0 0) st.code (payload.getD 2 0) (payload.getD 3 0) [] := by
  cases p <;> rfl

theorem State.request_busy {s : State} (busy : s.mgmt ≠ .idle) (p : Port) (f : Frame) :
    s.request p f = s.handReply p (s.replyFrame (s.requestOf p f) (echoPayload f.payload .busy)) .mgmt := by
  unfold State.request
  split
  · next idle => exact absurd idle busy
  · rfl

/-- A request on a port that owes nothing has a reply owed from then on, and reaches the engine (R142). -/
theorem State.routeRequest_free {s : State} {p : Port} (free : (s.port p).owed = false) (f : Frame) :
    s.routeRequest p f = (s.setPort p { s.port p with owed := true }).request p f := by
  unfold State.routeRequest
  rw [free]
  rfl

theorem State.requestArrival_payload (s : State) (p : Port) (e : Envelope) (payload : List Byte) :
    (s.requestArrival p e payload).payload = payload := by
  cases p <;> rfl

theorem State.asked_port_same (s : State) (p : Port) (commission : Bool) :
    (s.asked p commission).port p = { s.port p with owed := true } := State.setPort_port _ _ _

/-- A port that hears is UP (R123, R132). -/
theorem State.hears_up {s : State} {p : Port} (hears : s.hears p = true) : (s.port p).rx ≠ .down := by
  intro down
  cases p <;> simp [State.hears, PortRec.receiving, down] at hears

theorem PortRec.handReply_idle {r : PortRec} (up : r.rx ≠ .down) (idle : r.tx = .idle) (f : Frame) :
    r.handReply f = { r with hold := none, tx := .sending f true } := by
  unfold PortRec.handReply
  rw [if_pos ((r.up_iff).mpr up), PortRec.chooseTx_hold (r := { r with hold := some f }) up idle rfl]

theorem PortRec.handReply_sending {r : PortRec} (up : r.rx ≠ .down) (busy : r.tx ≠ .idle) (f : Frame) :
    r.handReply f = { r with hold := some f } := by
  unfold PortRec.handReply
  rw [if_pos ((r.up_iff).mpr up), PortRec.chooseTx_busy (r := { r with hold := some f }) busy]

/-- Settles O18: the BUSY answer, then its way out. -/
theorem requestToABusyEngineIsAnsweredBusy : Obligations.RequestToABusyEngineIsAnsweredBusy := by
  unfold Obligations.RequestToABusyEngineIsAnsweredBusy
  intro s p e commission settled hears addressed free busy s1 answers
  have answered (payload : List Byte) :
      s.actFrameAt (State.setCommission commission) p (frameOf .mgmtReq e payload) (.mgmt (requestRow payload)) =
        .next (s1.handReply p
          (replyTo s.unitNo p e (payload.getD 0 0) 1 (payload.getD 2 0) (payload.getD 3 0) []) .mgmt) := by
    rw [State.actFrameAt_request settled hears addressed,
      State.routeRequest_free (s := s.setPins { s.pins with commission := commission }) free,
      State.request_busy (s := (s.setPins { s.pins with commission := commission }).setPort p _) busy,
      State.requestOf_eq _ p e payload _ (by cases p <;> rfl), State.requestArrival_payload, State.replyFrame_echo]
    rfl
  have ways {i : Instr} {reply : Frame} (stepped : exec i s = .next (s1.handReply p reply .mgmt)) : answers i reply := by
    have record : s1.port p = { s.port p with owed := true } := s.asked_port_same p commission
    have up : ({ s.port p with owed := true } : PortRec).rx ≠ .down := State.hears_up hears
    refine ⟨fun onU => ?_, fun floor idle => ?_, fun floor sending => ?_⟩
    · subst onU
      rw [stepped, State.handReply_u]
      rfl
    all_goals
      obtain ⟨q, rfl⟩ : ∃ q, p = .floor q := by
        cases p with
        | floor q => exact ⟨q, rfl⟩
        | u => exact absurd rfl floor
      rw [stepped, State.handReply, State.updPort, record]
    · rw [PortRec.handReply_idle up idle]
    · rw [PortRec.handReply_sending up sending]
  refine ⟨fun table r env level i mem => ?_, fun payload other => ?_⟩
  · subst env level
    obtain ⟨table', row⟩ := exec_requestRows mem s
    exact ways (row.trans (answered _))
  · exact ways ((exec_malformedRequest_row other p e commission s).trans (answered payload))

/-! ### Samples -/

/-- The kind code and the FAULT bit of a status byte as numbers (12.3). -/
theorem statusForm_eq (st : Byte) (k : SensorKind) (r : Raw) :
    statusForm st k r =
      if st.toNat % 4 ≠ k.code then .format else if 128 ≤ st.toNat then .fault else .reading r := by
  have kind : (st.extractLsb' 0 2).toNat = st.toNat % 4 := by
    simp [BitVec.extractLsb'_toNat]
  have fault : st.msb = decide (128 ≤ st.toNat) := by
    rw [BitVec.msb_eq_decide]
  simp [statusForm, kind, fault]

/-- The big-endian number of two bytes (12.3). -/
theorem nat16_eq (x y : Byte) : (x ++ y : BitVec 16).toNat = nat16 x y := by
  rw [BitVec.toNat_append, ← Nat.shiftLeft_add_eq_or_of_lt y.isLt, Nat.shiftLeft_eq]
  rfl

/-- Settles O19: the payload's length and the form of the descriptor's kind. -/
theorem samplePayloadsAreReadByForm : Obligations.SamplePayloadsAreReadByForm := by
  unfold Obligations.SamplePayloadsAreReadByForm
  intro c payload
  refine ⟨fun length => ?_, fun a b x y bytes kind legacy => ?_, fun st a b x y bytes kind current => ?_,
    fun a b bytes kind legacy => ?_, fun st a b bytes kind current => ?_, fun st v bytes kind => ?_⟩
  · unfold readSample
    split <;> simp_all
  · unfold readSample
    rw [kind, decide_eq_true legacy, bytes, nat16_eq]
    rfl
  · unfold readSample
    rw [kind, decide_eq_false current, bytes, nat16_eq]
    exact statusForm_eq st .air _
  · unfold readSample
    rw [kind, decide_eq_true legacy, bytes]
    rfl
  · unfold readSample
    rw [kind, decide_eq_false current, bytes]
    exact statusForm_eq st .surface _
  · unfold readSample
    rw [kind, bytes]
    exact statusForm_eq st .wetness _

end Sys2Proof.Machine
end

section
/-! PROOFS. Samples at their descriptors: rejections, and the wetness samples accepted (R6 to R15, R90, R91). -/

-- The text is compiled as a whole: side by side its proofs would need more threads than there is memory for.
set_option Elab.async false

namespace Sys2Proof.Machine

/-! ### A SAMPLE frame at a present descriptor -/

@[simp] theorem State.setDesc_setDesc (s : State) (sel : Selector) (a b : Descriptor) :
    (s.setDesc sel a).setDesc sel b = s.setDesc sel b := by
  simp only [State.setDesc, State.setSdt]
  congr 1
  apply Tbl.ext_get
  intro i
  simp only [Tbl.get_set]
  split <;> rfl

theorem clampTo_eq {lo hi : Int} (range : lo ≤ hi) (i : Int) : clampTo lo hi i = max lo (min hi i) := by
  unfold clampTo
  split
  · omega
  · split <;> omega

/-- The RAW copy goes by the frame as the router rewrites it (R6, R139). -/
theorem State.rawCopy_eq (s : State) (c : SensorConfig) (q : FloorPort) (e : Envelope) (payload : List Byte) :
    s.rawCopy c (rewriteSource s.unitNo q (frameOf .sample e payload)) = s.setTurn (s.rawTurn c q e payload) := by
  unfold State.rawCopy State.rawTurn
  split <;> rfl

section
variable {s : State} (settled : s.Settled) {q : FloorPort} (hears : s.hears (.floor q) = true) {e : Envelope}
  (node : e.srcNode ≠ 0) {c : SensorConfig} (present : (s.desc (floorSelector q e.srcNode)).config = some c)
include settled hears node present

/-- A SAMPLE frame of a present descriptor: the RAW copy, then what its payload is read as (R6). -/
theorem exec_sample_present (payload : List Byte) :
    exec (.sample q e payload) s = .next
      (match readSample c payload with
        | .format => (s.setTurn (s.rawTurn c q e payload)).formatReject (floorSelector q e.srcNode) c.kind
        | .fault => (s.setTurn (s.rawTurn c q e payload)).plausibilityReject (floorSelector q e.srcNode) c.kind
        | .reading r => (s.setTurn (s.rawTurn c q e payload)).readingArrives (floorSelector q e.srcNode) c r) := by
  rw [exec_sample_settled settled hears, if_neg node, State.sampleArrives, present]
  dsimp only
  rw [State.rawCopy_eq]
  rfl

end

/-! ### Steps that store a descriptor and regrade -/

/-- What a step that stores a descriptor and regrades records is, seen from before the RAW copy and the counting of the
sample. -/
theorem State.StoresAndGrades.before {s t v : State} {sel : Selector} {d : Descriptor} {es : List Event}
    (h : t.StoresAndGrades v sel d es) (changes : s.Changes t [.sdt, .turn]) (others : s.OtherDescs t sel) :
    v.desc sel = d ∧ s.OtherDescs v sel ∧ s.Changes v ([.sdt, .surfaces, .zones, .turn] ++ reportFields) ∧
      s.ZonesKept v ∧ (s.raiseAll (es ++ s.gradeEvents v)).SameReports v ∧ v.turn = t.turn := by
  refine ⟨h.desc, fun x apart => (h.others x apart).trans (others x apart), ?_, ?_, ?_,
    h.changes.same .turn (by decide)⟩
  · exact (changes.mono (by decide)).trans (h.changes.mono (by decide))
  · exact (State.ZonesKept.of_zones (changes.same .zones (by decide))).trans h.zones
  · have events : t.gradeEvents v = s.gradeEvents v := State.gradeEvents_congr (changes.same .surfaces (by decide)) v
    rw [← events]
    exact (changes.sameReports.raiseAll _).trans h.reports

/-! ### Rejections (R13) -/

/-- A rejected sample before its forward decision (R13, R17, R18). -/
def State.suspected (s : State) (sel : Selector) (kind : SensorKind) : State :=
  let d := s.desc sel
  let t := s.setDesc sel d.rejected
  if d.rejectMoves then (t.raiseSensor sel d.state).probeNotice kind sel else t

theorem State.rejectSample_eq (s : State) (sel : Selector) (kind : SensorKind) :
    s.rejectSample sel kind = (s.suspected sel kind).forwardReject sel (s.desc sel).rejectMoves := rfl

theorem Descriptor.rejectMoves_iff (d : Descriptor) : d.rejectMoves = true ↔ 2 ≤ d.rejects ∧ d.phase ≠ .suspect := by
  simp [Descriptor.rejectMoves]

/-- The SENSOR event of the third rejection in a row (R13, R17). -/
def Descriptor.suspectEvents (d : Descriptor) (c : SensorConfig) (sel : Selector) : List Event :=
  if d.rejectMoves then sensorEvents c sel d.state .suspect d.age 3 else []

section
variable {s : State} {sel : Selector} {c : SensorConfig} (present : (s.desc sel).config = some c)
include present

theorem State.raiseSensor_suspect (moves : (s.desc sel).rejectMoves = true) :
    (s.setDesc sel (s.desc sel).rejected).raiseSensor sel (s.desc sel).state =
      (s.setDesc sel (s.desc sel).rejected).raiseAll ((s.desc sel).suspectEvents c sel) := by
  obtain ⟨two, -⟩ := (Descriptor.rejectMoves_iff _).mp moves
  have config : (s.desc sel).rejected.config = some c := present
  have state : (s.desc sel).rejected.state = .suspect := by
    simp [Descriptor.state, config, Descriptor.rejected_phase moves, Phase.state]
  have age : (s.desc sel).rejected.age = (s.desc sel).age := rfl
  have three : (s.desc sel).rejected.rejects = 3 := by
    simp only [Descriptor.rejected]
    omega
  rw [State.raiseSensor_eq (c := c) (by rw [State.setDesc_desc]; exact config), State.setDesc_desc, state, age, three,
    Descriptor.suspectEvents, if_pos moves]

theorem State.suspected_stores :
    s.StoresAndGrades (s.suspected sel c.kind) sel (s.desc sel).rejected ((s.desc sel).suspectEvents c sel) := by
  refine .of_grades rfl ?_
  by_cases moves : (s.desc sel).rejectMoves = true
  · rw [State.suspected, if_pos moves, State.raiseSensor_suspect present moves]
    exact State.probeNotice_grades _ _ _
  · rw [State.suspected, if_neg moves, Descriptor.suspectEvents, if_neg moves]
    exact .refl _

theorem State.suspected_noticed (moves : (s.desc sel).rejectMoves = true) :
    s.Noticed (s.suspected sel c.kind) c.kind sel := by
  rw [State.suspected, if_pos moves, State.raiseSensor_suspect present moves]
  exact (State.probeNotice_noticed _ _ _).of_surfaces
    ((State.raiseAll_changes _ _).same .surfaces (by decide))

omit present in
theorem State.suspected_surfaces (stays : (s.desc sel).rejectMoves = false) (kind : SensorKind) :
    (s.suspected sel kind).surfaces = s.surfaces := by
  rw [State.suspected, stays]
  rfl

/-- The forward decision at a rejection (R13, R166). -/
theorem State.forwardReject_eq (moved : Bool) :
    s.forwardReject sel moved =
      if c.mode = .enriched ∨ (c.mode = .changed ∧ moved = true) then
        s.offered sel (rejectPayload sel (s.desc sel) c.kind) (rejectRef (s.desc sel) c.kind)
      else s := by
  unfold State.forwardReject
  dsimp only
  rw [present]
  dsimp only
  cases mode : c.mode with
  | off => exact (if_neg (by simp)).symm
  | raw => exact (if_neg (by simp)).symm
  | enriched => exact (if_pos (.inl rfl)).symm
  | changed =>
    cases moved with
    | true => exact (if_pos (.inr ⟨rfl, rfl⟩)).symm
    | false => exact (if_neg (by simp)).symm

end

/-- The REJECTED bit is bit 4 of the flags (12.4). -/
theorem Descriptor.flags_rejected (d : Descriptor) : (d.flags true).getLsbD 4 = true := by
  unfold Descriptor.flags
  cases d.clamped <;> cases d.saturated <;> cases d.belowTable <;> cases d.unevaluated <;> rfl

theorem rejectPayload_eq (sel : Selector) (d : Descriptor) (kind : SensorKind) :
    ∃ form flags rest, rejectPayload sel d kind = [form, sel, BitVec.ofNat 8 d.state.code, flags] ++ rest ∧
      flags.getLsbD 4 = true := by
  cases kind with
  | air => exact ⟨1, d.flags true, _, rfl, d.flags_rejected⟩
  | surface => exact ⟨3, d.flags true, _, rfl, d.flags_rejected⟩
  | wetness => exact ⟨4, d.flags true, _, rfl, d.flags_rejected⟩

/-- The reference of a rejection's frame by the kind (R167). -/
theorem rejectRef_eq (d : Descriptor) (kind : SensorKind) :
    rejectRef d kind = match kind with
      | .air => .air (d.lastAir.map AirResult.td)
      | .surface => .surfaceDetached
      | .wetness => .wetness d.lastWet := by
  cases kind <;> rfl

/-- A descriptor whose rejection has been counted: as a format reject, or as a plausibility reject (R7, R8, R12). -/
def Descriptor.countedReject (d : Descriptor) (format : Bool) : Descriptor :=
  if format then { d with formatRejects := satInc d.formatRejects }
  else { d with plausibilityRejects := satInc d.plausibilityRejects }

theorem Descriptor.countedReject_rejected (d : Descriptor) (format : Bool) :
    (d.countedReject format).rejected =
      { d with
        rejects := min 3 (d.rejects + 1)
        phase := if 2 ≤ d.rejects then .suspect else d.phase
        formatRejects := (d.countedReject format).rejected.formatRejects
        plausibilityRejects := (d.countedReject format).rejected.plausibilityRejects } := by
  cases format <;> simp [Descriptor.countedReject, Descriptor.rejected]

/-- The window of R12 in the words of the rule. -/
theorem inRange_correctT (c : SensorConfig) (t : Int) :
    inRange c.tLo c.tHi (correctT t c.tOffset).1 = false ↔
      max (-4000) (min 8500 (t + c.tOffset)) < c.tLo ∨ c.tHi < max (-4000) (min 8500 (t + c.tOffset)) := by
  rw [correctT, clampTo_eq (by decide)]
  simp only [inRange, Bool.and_eq_false_iff, decide_eq_false_iff_not, Int.not_le]

/-- What a rejected sample is, from the step before its forward decision. -/
theorem rejected_outcome {s t : State} {sel : Selector} {c : SensorConfig} (present : (s.desc sel).config = some c)
    {turn : Turn} {format : Bool} (counted : t = (s.setTurn turn).setDesc sel ((s.desc sel).countedReject format)) :
    let d := s.desc sel
    let v := t.suspected sel c.kind
    let moves := 2 ≤ d.rejects ∧ d.phase ≠ .suspect
    t.rejectSample sel c.kind =
        (if c.mode = .enriched ∨ (c.mode = .changed ∧ moves) then
          v.offered sel (rejectPayload sel (v.desc sel) c.kind) (rejectRef d c.kind) else v) ∧
      v.desc sel = (d.countedReject format).rejected ∧ s.OtherDescs v sel ∧
      s.Changes v ([.sdt, .surfaces, .zones, .turn] ++ reportFields) ∧ s.ZonesKept v ∧
      (s.raiseAll ((if moves then sensorEvents c sel d.state .suspect d.age 3 else []) ++ s.gradeEvents v)).SameReports v ∧
      v.turn = turn ∧ (moves → s.Noticed v c.kind sel) ∧ (¬ moves → v.surfaces = s.surfaces) := by
  intro d v moves
  have record : t.desc sel = d.countedReject format := by rw [counted, State.setDesc_desc]
  have config : (d.countedReject format).config = some c := by cases format <;> exact present
  have rejects : (d.countedReject format).rejects = d.rejects := by cases format <;> rfl
  have phase : (d.countedReject format).phase = d.phase := by cases format <;> rfl
  have state : (d.countedReject format).state = d.state := by cases format <;> rfl
  have age : (d.countedReject format).age = d.age := by cases format <;> rfl
  have moved : (d.countedReject format).rejectMoves = true ↔ moves := by
    rw [Descriptor.rejectMoves_iff, rejects, phase]
  have here : (t.desc sel).config = some c := by rw [record, config]
  have changes : s.Changes t [.sdt, .turn] := by
    rw [counted]
    exact ((s.setTurn_changes turn).mono (by decide)).trans ((State.setDesc_changes _ _ _).mono (by decide))
  have others : s.OtherDescs t sel := fun x apart => by
    rw [counted]
    exact State.setDesc_desc_ne _ _ apart
  obtain ⟨desc, otherDescs, fields, zones, reports, turns⟩ := (State.suspected_stores here).before changes others
  have stored : v.desc sel = (d.countedReject format).rejected := desc.trans (congrArg Descriptor.rejected record)
  have surfaces : t.surfaces = s.surfaces := changes.same .surfaces (by decide)
  refine ⟨?_, stored, otherDescs, fields, zones, ?_, ?_, fun move => ?_, fun stay => ?_⟩
  · have ref : rejectRef (v.desc sel) c.kind = rejectRef d c.kind := by
      rw [stored]
      cases format <;> cases c.kind <;> rfl
    rw [State.rejectSample_eq, State.forwardReject_eq (c := c) (by rw [stored]; exact config), record, ref]
    simp only [moved]
    rfl
  · have events : (t.desc sel).suspectEvents c sel =
        if moves then sensorEvents c sel d.state .suspect d.age 3 else [] := by
      rw [record, Descriptor.suspectEvents, state, age]
      simp only [moved]
    rw [← events]
    exact reports
  · rw [turns, counted]
    rfl
  · exact (State.suspected_noticed here (by rw [record]; exact moved.mpr move)).of_surfaces surfaces
  · have stays : (t.desc sel).rejectMoves = false := by
      rw [record]
      exact Bool.eq_false_iff.mpr fun move => stay (moved.mp move)
    rw [State.suspected_surfaces stays, surfaces]

/-- Settles O20: which counter the rejection counts, then the rejection itself. -/
theorem rejectedSampleCountsAndSuspects : Obligations.RejectedSampleCountsAndSuspects := by
  unfold Obligations.RejectedSampleCountsAndSuspects
  intro s q e payload c settled hears node present sel d outside format plausibility moves value rejected
  have arrived := exec_sample_present settled hears node present payload
  have apart : format → plausibility → False := by
    rintro isFormat (fault | ⟨t, rh, reading, -⟩ | ⟨t, reading, -⟩)
    · exact nomatch isFormat.symm.trans fault
    · exact nomatch isFormat.symm.trans reading
    · exact nomatch isFormat.symm.trans reading
  obtain ⟨kind, stepped, isFormat⟩ : ∃ kind : Bool,
      exec (.sample q e payload) s = .next
        (((s.setTurn (s.rawTurn c q e payload)).setDesc sel (d.countedReject kind)).rejectSample sel c.kind) ∧
      (format ↔ kind = true) := by
    obtain isFormat | isPlausibility := rejected
    · refine ⟨true, arrived.trans ?_, iff_of_true isFormat rfl⟩
      rw [isFormat]
      rfl
    · refine ⟨false, arrived.trans ?_, iff_of_false (fun isFormat => apart isFormat isPlausibility) nofun⟩
      obtain fault | ⟨t, rh, reading, window⟩ | ⟨t, reading, window⟩ := isPlausibility
      · rw [fault]
        rfl
      · rw [reading]
        exact congrArg Host.Outcome.next (if_neg (by rw [(inRange_correctT c t).mpr window]; decide))
      · rw [reading]
        exact congrArg Host.Outcome.next (if_neg (by rw [(inRange_correctT c t).mpr window]; decide))
  obtain ⟨decision, stored, others, changes, zones, reports, turn, noticed, surfaces⟩ :=
    rejected_outcome present (t := (s.setTurn (s.rawTurn c q e payload)).setDesc sel (d.countedReject kind)) rfl
  refine ⟨_, others, changes, zones, ?_, fun isFormat' => ?_, fun isPlausibility => ?_, turn, noticed, surfaces,
    reports, fun offers => ?_, fun quiet => ?_, rejectPayload_eq _ _ _⟩
  · rw [stored]
    exact Descriptor.countedReject_rejected d kind
  · rw [stored, isFormat.mp isFormat']
    exact ⟨rfl, rfl⟩
  · rw [stored, Bool.eq_false_iff.mpr fun yes => apart (isFormat.mpr yes) isPlausibility]
    exact ⟨rfl, rfl⟩
  · rw [stepped, decision, if_pos offers]
    exact congrArg Host.Outcome.next (congrArg _ (rejectRef_eq d c.kind))
  · rw [stepped, decision, if_neg]
    rintro (enriched | ⟨changed, move⟩)
    · simp [enriched] at quiet
    · simp only [changed, reduceCtorEq, true_and, false_or] at quiet
      exact quiet move

/-! ### Acceptance (R14, R15) -/

/-- A descriptor that acceptance leaves: present as it was, LIVE, with age and reject count 0 (R14). -/
structure Descriptor.AcceptedFrom (d' d : Descriptor) : Prop where
  config : d'.config = d.config
  phase : d'.phase = .live
  age : d'.age = 0
  rejects : d'.rejects = 0

/-- The SENSOR event of a recovery, once the accepted descriptor is stored (R14, R17). -/
theorem State.raiseRecovery_eq {s : State} {sel : Selector} {c : SensorConfig} {d d' : Descriptor}
    (present : d.config = some c) (accepted : d'.AcceptedFrom d) :
    (s.setDesc sel d').raiseRecovery sel d = (s.setDesc sel d').raiseAll (recoveryEvents c sel d) := by
  have config : d'.config = some c := accepted.config.trans present
  have live : d'.state = .live := by simp [Descriptor.state, config, accepted.phase, Phase.state]
  unfold State.raiseRecovery recoveryEvents
  split
  · rw [State.raiseSensor_eq (c := c) (by rw [State.setDesc_desc]; exact config), State.setDesc_desc, live, accepted.age,
      accepted.rejects]
  · rfl

/-- What a wetness arrival leaves of the records that name the pad (R90, R91, R96). -/
theorem State.wetnessArrival_surface (s : State) (sel : Selector) (w : Wet) (i : Fin 64) :
    (s.wetnessArrival sel w).surface i =
      if (match (s.surface i).config with
        | some k => decide (k.wetness = some sel)
        | none => false)
      then match w with
        | .water => Surface.recounted { s.surface i with confirmed := true, grade := .wet, dwell := 0 } (s.surface i).grade
        | .dry => { s.surface i with confirmed := false }
      else s.surface i := by
  cases w with
  | water => exact (s.wet_pads sel).1 i
  | dry => exact (s.unconfirm_pads sel).1 i

/-- A record under water, with the change counted (R90, R96). -/
theorem Surface.wetted_recounted (r : Surface) :
    Surface.recounted { r with confirmed := true, grade := .wet, dwell := 0 } r.grade =
      { r with
        confirmed := true, grade := .wet, dwell := 0
        changes := if r.grade = .wet then r.changes else min (r.changes + 1) 65535 } := by
  unfold Surface.recounted satInc
  by_cases wet : r.grade = .wet
  · simp [wet]
  · simp [wet, Ne.symm wet]

/-- Settles O23: the descriptor, its event, the records of the pad, then the forward mode. -/
theorem wetnessSampleActsOnItsSurfaces : Obligations.WetnessSampleActsOnItsSurfaces := by
  unfold Obligations.WetnessSampleActsOnItsSurfaces
  intro s q e payload c w settled hears node present reading sel d
  have arrived := exec_sample_present settled hears node present payload
  rw [reading] at arrived
  let t := s.setTurn (s.rawTurn c q e payload)
  have recovery : (t.setDesc sel (d.wetnessAccepted w)).raiseRecovery sel d =
      (t.setDesc sel (d.wetnessAccepted w)).raiseAll (recoveryEvents c sel d) :=
    State.raiseRecovery_eq present ⟨rfl, rfl, rfl, rfl⟩
  let u := (t.setDesc sel (d.wetnessAccepted w)).raiseAll (recoveryEvents c sel d)
  have stores : t.StoresAndGrades (u.wetnessArrival sel w) sel (d.wetnessAccepted w) (recoveryEvents c sel d) :=
    .of_grades rfl (u.wetnessArrival_grades sel w)
  obtain ⟨desc, others, changes, zones, reports, turn⟩ :=
    stores.before ((s.setTurn_changes _).mono (by decide)) fun _ _ => rfl
  have surfaces (i : Fin 64) : u.surface i = s.surface i :=
    (State.raiseAll_changes (t.setDesc sel (d.wetnessAccepted w)) _).surfaceAt i
  have after (i : Fin 64) := u.wetnessArrival_surface sel w i
  simp only [surfaces] at after
  have stepped : exec (.sample q e payload) s = .next
      ((u.wetnessArrival sel w).forward sel (wetnessPayload sel ((u.wetnessArrival sel w).desc sel) false)
        (.wetness (some w))) := by
    refine arrived.trans (congrArg Host.Outcome.next ?_)
    show t.acceptWetness sel w = _
    unfold State.acceptWetness
    dsimp only
    have here : t.desc sel = d := rfl
    rw [here, recovery]
  refine ⟨_, stepped, others, desc, turn, reports, changes, zones, fun i unnamed => ?_, fun water i k used named => ?_,
    fun dry i k used named => ?_⟩
  · rw [after i, if_neg]
    cases config : (s.surface i).config with
    | none => simp
    | some k => simpa using unnamed k config
  · rw [after i, if_pos (by rw [used]; simpa using named), water]
    exact Surface.wetted_recounted (s.surface i)
  · rw [after i, if_pos (by rw [used]; simpa using named), dry]

end Sys2Proof.Machine
end

section
/-! PROOFS. The samples that make jobs, the engine's choice and the forward modes (R9, R10, R14, R19, R41, R42, R165 to
R167). -/

-- The text is compiled as a whole: side by side its proofs would need more threads than there is memory for.
set_option Elab.async false

namespace Sys2Proof.Machine

/-! ### The offer of a job (R19) -/

section
variable {s : State} {j : SampleJob}

/-- An entry for the selector takes the job's values and keeps its place and its version. -/
theorem State.offerJob_coalesced {x : SampleJob} (mem : x ∈ s.evalQueue) (same : x.sel = j.sel) :
    s.offerJob j =
      (s.setEvalQueue (s.evalQueue.map fun y => if y.sel = j.sel then { j with version := y.version } else y)).setCounters
        { s.counters with coalesced := min (s.counters.coalesced + 1) 65535 } :=
  if_pos (List.any_eq_true.mpr ⟨x, mem, decide_eq_true same⟩)

theorem State.offerJob_new (new : ∀ x ∈ s.evalQueue, x.sel ≠ j.sel) :
    s.offerJob j =
      if s.evalQueue.length < 32 then (s.setEvalQueue (s.evalQueue ++ [j])).takeIfIdle
      else (s.count fun c => { c with eqOverflow := satInc c.eqOverflow }).updDesc j.sel fun d =>
        { d with unevaluated := true } := by
  refine if_neg fun any => ?_
  obtain ⟨x, mem, same⟩ := List.any_eq_true.mp any
  exact new x mem (of_decide_eq_true same)

theorem State.takeIfIdle_busy (busy : s.job ≠ none) : s.takeIfIdle = s :=
  if_neg fun idle => busy (Option.isNone_iff_eq_none.mp idle)

theorem State.takeIfIdle_idle (idle : s.job = none) : s.takeIfIdle = s.takeJob :=
  if_pos (Option.isNone_iff_eq_none.mpr idle)

end

/-- Raising events touches of the unit counters only the lost ones (R106). -/
theorem State.raise_counters (s : State) (e : Event) :
    (s.raise e).counters = { s.counters with reportLoss := (s.raise e).counters.reportLoss } := by
  unfold State.raise
  split
  · rfl
  · split
    · rfl
    · rw [State.loseEvent_counters]

theorem State.raiseAll_counters (s : State) (es : List Event) :
    (s.raiseAll es).counters = { s.counters with reportLoss := (s.raiseAll es).counters.reportLoss } := by
  induction es generalizing s with
  | nil => rfl
  | cons e es ih =>
    have rest := ih (s.raise e)
    rw [s.raise_counters e] at rest
    exact rest

/-- `w` is `s` once an accepted sample has stored its descriptor and told its events; the RAW copy left `turn`. -/
structure State.StoresSample (s w : State) (turn : Turn) (sel : Selector) (d : Descriptor) (told : State) : Prop where
  desc : w.desc sel = d
  others : s.OtherDescs w sel
  turn : w.turn = turn
  reports : told.SameReports w
  changes : s.Changes w ([.sdt, .turn] ++ reportFields)

theorem State.storesSample (s : State) (turn : Turn) (sel : Selector) (d : Descriptor) (es : List Event) :
    s.StoresSample (((s.setTurn turn).setDesc sel d).raiseAll es) turn sel d (s.raiseAll es) := by
  have base : s.Changes ((s.setTurn turn).setDesc sel d) [.sdt, .turn] :=
    ((s.setTurn_changes turn).mono (by decide)).trans ((State.setDesc_changes _ _ _).mono (by decide))
  have raised := ((s.setTurn turn).setDesc sel d).raiseAll_changes es
  have sdt : (((s.setTurn turn).setDesc sel d).raiseAll es).sdt = ((s.setTurn turn).setDesc sel d).sdt :=
    raised.same .sdt (by decide)
  refine ⟨?_, fun x apart => ?_, raised.same .turn (by decide), base.sameReports.raiseAll es,
    (base.mono (by decide)).andThen raised⟩
  · rw [State.desc, sdt]
    exact State.setDesc_desc _ _ _
  · rw [State.desc, sdt]
    exact State.setDesc_desc_ne _ _ apart

/-- What the offer of an accepted sample's job leaves (R14, R19, R41). -/
structure State.OffersSample (s w u : State) (turn : Turn) (sel : Selector) (d : Descriptor) (told : State)
    (j : SampleJob) : Prop where
  others : s.OtherDescs u sel
  desc : u.desc sel = { d with unevaluated := (u.desc sel).unevaluated }
  turn : u.turn = turn
  slots : u.slots = told.slots
  alarmLoss : u.alarmLoss = told.alarmLoss
  changes : s.Changes u ([.sdt, .evalQueue, .zoneClose, .job, .turn] ++ reportFields)
  room : s.job ≠ none → (∀ x ∈ s.evalQueue, x.sel ≠ sel) → s.evalQueue.length < 32 →
    u.job = s.job ∧ u.zoneClose = s.zoneClose ∧ u.evalQueue = s.evalQueue ++ [j] ∧
      (u.desc sel).unevaluated = d.unevaluated ∧ u.counters = told.counters
  full : s.job ≠ none → (∀ x ∈ s.evalQueue, x.sel ≠ sel) → 32 ≤ s.evalQueue.length →
    u.job = s.job ∧ u.zoneClose = s.zoneClose ∧ u.evalQueue = s.evalQueue ∧ (u.desc sel).unevaluated = true ∧
      u.counters = { told.counters with eqOverflow := min (s.counters.eqOverflow + 1) 65535 }
  coalesced : ∀ x ∈ s.evalQueue, x.sel = sel → u.job = s.job ∧ u.zoneClose = s.zoneClose ∧
    u.evalQueue = s.evalQueue.map (fun y => if y.sel = sel then { j with version := y.version } else y) ∧
    u.counters = { told.counters with coalesced := min (s.counters.coalesced + 1) 65535 } ∧
    (u.desc sel).unevaluated = d.unevaluated
  idle : s.job = none → s.evalQueue = [] → (∀ z : Fin 32, s.zoneClose.get z = none) →
    u.job = some (w.jobOf j) ∧ u.evalQueue = [] ∧ u.zoneClose = s.zoneClose ∧
      (u.desc sel).unevaluated = d.unevaluated ∧ u.counters = told.counters

/-- An offer changes of the descriptors at most the mark of its own (R19). -/
theorem State.offerJob_sdt (w : State) (j : SampleJob) :
    (w.offerJob j).sdt = w.sdt ∨
      (w.offerJob j).sdt = (w.setDesc j.sel { w.desc j.sel with unevaluated := true }).sdt := by
  unfold State.offerJob
  split
  · exact .inl rfl
  · split
    · exact .inl (State.takeIfIdle_changes _ |>.same .sdt (by decide))
    · exact .inr rfl

theorem State.StoresSample.offers {s w told : State} {turn : Turn} {sel : Selector} {d : Descriptor}
    (h : s.StoresSample w turn sel d told) (lost : told.counters = { s.counters with reportLoss := told.counters.reportLoss })
    {j : SampleJob} (named : j.sel = sel) : s.OffersSample w (w.offerJob j) turn sel d told j := by
  obtain ⟨slots, counters, alarmLoss⟩ := h.reports
  have offer := w.offerJob_changes j
  have queue : w.evalQueue = s.evalQueue := h.changes.same .evalQueue (by decide)
  have job : w.job = s.job := h.changes.same .job (by decide)
  have zones : w.zoneClose = s.zoneClose := h.changes.same .zoneClose (by decide)
  have descs (x : Selector) : (w.offerJob j).desc x = w.desc x ∨
      (x = sel ∧ (w.offerJob j).desc x = { w.desc x with unevaluated := true }) := by
    obtain same | marked := w.offerJob_sdt j
    · exact .inl (by rw [State.desc, same]; rfl)
    · rw [State.desc, marked, named]
      by_cases here : x = sel
      · subst here
        exact .inr ⟨rfl, State.setDesc_desc _ _ _⟩
      · exact .inl (State.setDesc_desc_ne _ _ here)
  refine
    { others := fun x apart => ?_, desc := ?_, turn := Eq.trans (offer.same .turn (by decide)) h.turn
      slots := Eq.trans (offer.same .slots (by decide)) slots
      alarmLoss := Eq.trans (offer.same .alarmLoss (by decide)) alarmLoss
      changes := (h.changes.mono (by decide)).andThen offer
      room := fun busy new room => ?_, full := fun busy new full => ?_, coalesced := fun x mem same => ?_
      idle := fun idle empty closed => ?_ }
  · obtain kept | ⟨here, -⟩ := descs x
    · exact kept.trans (h.others x apart)
    · exact absurd here apart
  · obtain kept | ⟨-, marked⟩ := descs sel
    · rw [kept, h.desc]
    · rw [marked, h.desc]
  · rw [State.offerJob_new (by rw [queue, named]; exact new), if_pos (by rw [queue]; exact room),
      State.takeIfIdle_busy (by rw [State.setEvalQueue_job, job]; exact busy)]
    exact ⟨job, zones, congrArg (· ++ [j]) queue, congrArg Descriptor.unevaluated h.desc, counters⟩
  · rw [State.offerJob_new (by rw [queue, named]; exact new), if_neg (by rw [queue]; exact Nat.not_lt.mpr full)]
    refine ⟨job, zones, queue, ?_, ?_⟩
    · rw [named, State.updDesc, State.setDesc_desc]
    · show { w.counters with eqOverflow := satInc w.counters.eqOverflow } = _
      rw [counters, satInc_eq, lost]
  · rw [State.offerJob_coalesced (x := x) (by rw [queue]; exact mem) (same.trans named.symm)]
    refine ⟨job, zones, ?_, ?_, congrArg Descriptor.unevaluated h.desc⟩
    · rw [← queue, ← named]
      rfl
    · show { w.counters with coalesced := min (w.counters.coalesced + 1) 65535 } = _
      rw [counters, lost]
  · have take : w.offerJob j = { w with evalQueue := [], job := some (w.jobOf j) } := by
      rw [State.offerJob_new (by rw [queue, empty]; nofun), if_pos (by rw [queue, empty]; decide),
        State.takeIfIdle_idle (by rw [State.setEvalQueue_job, job, idle]),
        State.takeJob_of_queue (q := j) (rest := []) (by rw [State.setEvalQueue_zoneClose, zones]; exact closed)
          (by rw [State.setEvalQueue_evalQueue, queue, empty]; rfl)]
      rfl
    rw [take]
    exact ⟨rfl, rfl, zones, congrArg Descriptor.unevaluated h.desc, counters⟩

/-- A SURFACE job whose selector no record in use names is unbound (R42). -/
theorem State.binding_of_unnamed {s : State} {sel : Selector}
    (unnamed : ∀ (i : Fin 64) (k : SurfaceConfig), (s.surface i).config = some k → k.probe ≠ sel) :
    s.binding sel = none := by
  have none : s.probeSurfaces sel = [] := by
    rw [State.probeSurfaces, Tbl.indices, List.filter_eq_nil_iff]
    intro i _
    have apart := unnamed i
    rw [State.surface] at apart
    cases config : (s.surfaces.get i).config with
    | none => simp
    | some k => simpa using apart k config
  unfold State.binding
  rw [none]
  rfl

/-! ### Correction (R9, R10) -/

theorem correctT_eq (t offset : Int) :
    correctT t offset =
      (max (-4000) (min 8500 (t + offset)), decide (t + offset < -4000 ∨ 8500 < t + offset)) := by
  rw [correctT, clampTo_eq (by decide)]
  refine Prod.ext rfl ?_
  rw [Bool.eq_iff_iff]
  simp only [inRange, Bool.not_eq_true', Bool.and_eq_false_iff, decide_eq_false_iff_not, decide_eq_true_eq]
  omega

theorem decide_or_or (a b c : Prop) [Decidable a] [Decidable b] [Decidable c] :
    (decide (a ∨ b) || decide c) = decide (a ∨ b ∨ c) := by
  simp [Bool.or_assoc]

theorem correctRh_eq (rh : Nat) (c : SensorConfig) :
    correctRh rh c.gain c.rhOffset =
      let sum : Int := ((rh * (if c.ext = 0 then 4096 else c.ext.toNat) + 2048) / 4096 : Nat) + c.rhOffset
      ((max 0 (min 10000 sum)).toNat, decide (10000 < sum), decide (sum < 0)) := by
  rw [correctRh, clampTo_eq (by decide)]
  rfl

theorem inRange_of {lo hi t : Int} (low : lo ≤ t) (high : t ≤ hi) : inRange lo hi t = true := by
  simp [inRange, low, high]

/-- Settles O21: correction, acceptance, and the offer of the AIR job. -/
theorem airSampleIsAccepted : Obligations.AirSampleIsAccepted := by
  unfold Obligations.AirSampleIsAccepted
  intro s q e payload c t rh settled hears node present reading sel d tc g sum rc clamped saturated job told low high
  have arrived := exec_sample_present settled hears node present payload
  rw [reading] at arrived
  let r := s.setTurn (s.rawTurn c q e payload)
  let w := (r.setDesc sel (d.airAccepted tc rc clamped saturated)).raiseAll (recoveryEvents c sel d)
  have recovery : (r.setDesc sel (d.airAccepted tc rc clamped saturated)).raiseRecovery sel d = w :=
    State.raiseRecovery_eq present ⟨rfl, rfl, rfl, rfl⟩
  have stepped : exec (.sample q e payload) s = .next (w.offerJob job) := by
    refine arrived.trans (congrArg Host.Outcome.next ?_)
    have corrected : r.readingArrives sel c (.air t rh) = r.acceptAir sel tc rc clamped saturated := by
      unfold State.readingArrives
      dsimp only
      rw [correctT_eq, correctRh_eq]
      refine (if_pos (inRange_of low high)).trans (congrArg (fun x => r.acceptAir sel tc rc x saturated) ?_)
      exact decide_or_or _ _ _
    refine corrected.trans ?_
    unfold State.acceptAir
    dsimp only
    have here : r.desc sel = d := rfl
    rw [here, recovery]
  have offers := (s.storesSample (s.rawTurn c q e payload) sel (d.airAccepted tc rc clamped saturated)
    (recoveryEvents c sel d)).offers (s.raiseAll_counters _) (j := job) rfl
  have gen : w.svt = s.svt := (State.raiseAll_changes (r.setDesc sel _) _).same .svt (by decide)
  refine ⟨_, stepped, offers.others, offers.desc, offers.turn, offers.slots, offers.alarmLoss, offers.changes,
    fun idle empty closed => ?_, offers.room, offers.full, offers.coalesced⟩
  obtain ⟨taken, rest⟩ := offers.idle idle empty closed
  refine ⟨taken.trans ?_, rest⟩
  rw [← gen]
  rfl

/-- Settles O22: correction, acceptance, and the offer of the SURFACE job with its binding. -/
theorem surfaceSampleIsAccepted : Obligations.SurfaceSampleIsAccepted := by
  unfold Obligations.SurfaceSampleIsAccepted
  intro s q e payload c t settled hears node present reading sel d tc clamped job told low high
  have arrived := exec_sample_present settled hears node present payload
  rw [reading] at arrived
  let r := s.setTurn (s.rawTurn c q e payload)
  let w := (r.setDesc sel (d.surfaceAccepted tc clamped)).raiseAll (recoveryEvents c sel d)
  have recovery : (r.setDesc sel (d.surfaceAccepted tc clamped)).raiseRecovery sel d = w :=
    State.raiseRecovery_eq present ⟨rfl, rfl, rfl, rfl⟩
  have stepped : exec (.sample q e payload) s = .next (w.offerJob job) := by
    refine arrived.trans (congrArg Host.Outcome.next ?_)
    have corrected : r.readingArrives sel c (.surface t) = r.acceptSurface sel tc clamped := by
      unfold State.readingArrives
      dsimp only
      rw [correctT_eq]
      exact if_pos (inRange_of low high)
    refine corrected.trans ?_
    unfold State.acceptSurface
    dsimp only
    have here : r.desc sel = d := rfl
    rw [here, recovery]
  have offers := (s.storesSample (s.rawTurn c q e payload) sel (d.surfaceAccepted tc clamped)
    (recoveryEvents c sel d)).offers (s.raiseAll_counters _) (j := job) rfl
  have raised := (r.setDesc sel (d.surfaceAccepted tc clamped)).raiseAll_changes (recoveryEvents c sel d)
  have gen : w.svt = s.svt := raised.same .svt (by decide)
  have surfaces (i : Fin 64) : w.surface i = s.surface i := raised.surfaceAt i
  refine ⟨_, stepped, offers.others, offers.desc, offers.turn, offers.slots, offers.alarmLoss, offers.changes,
    fun busy new room => ?_, offers.full, offers.coalesced, fun idle empty closed => ?_⟩
  · obtain ⟨kept, zones, queue, mark, counters⟩ := offers.room busy new room
    exact ⟨kept, zones, queue, counters, mark⟩
  · obtain ⟨taken, queue, zones, mark, counters⟩ := offers.idle idle empty closed
    refine ⟨queue, zones, counters, mark, fun unnamed => ?_, fun i k used probe unique => ?_⟩
    · have unbound : w.binding sel = none := State.binding_of_unnamed fun i k used => unnamed i k (by rwa [← surfaces i])
      rw [taken, ← gen, ← unbound]
      rfl
    · have bound := State.binding_of_unique (s := w) (by rw [surfaces i]; exact used) probe
        fun j l used => unique j l (by rwa [← surfaces j])
      refine ⟨{ surface := i, version := (w.surface i).version, capture := w.capture k }, ?_, rfl,
        congrArg Surface.version (surfaces i)⟩
      rw [taken, ← gen, ← bound]
      rfl

end Sys2Proof.Machine
end

section
/-! PROOFS. The engine's choice and the forward modes (R41, R42, R165 to R167). -/

-- The text is compiled as a whole: side by side its proofs would need more threads than there is memory for.
set_option Elab.async false

namespace Sys2Proof.Machine

/-! ### The take (R41, R42) -/

theorem State.takeJob_of_nothing {s : State} (closed : ∀ z : Fin 32, s.zoneClose.get z = none) (empty : s.evalQueue = []) :
    s.takeJob = s.setJob none := by
  have closing : s.closing = [] := by simp [State.closing, Tbl.indices, closed]
  unfold State.takeJob
  rw [closing, empty]

/-- Settles O26: the zone, the head of the queue, or nothing. -/
theorem engineTakesZonesFirst : Obligations.EngineTakesZonesFirst := by
  unfold Obligations.EngineTakesZonesFirst
  intro s
  refine ⟨fun z snap waits lowest => State.takeJob_of_zone waits lowest, fun closed =>
    ⟨State.takeJob_of_nothing closed, fun q rest queue => ⟨fun t rh sat reading => ?_, fun t reading unnamed => ?_⟩⟩⟩
  · rw [State.takeJob_of_queue closed queue, State.jobOf, reading]
  · rw [State.takeJob_of_queue closed queue, State.jobOf, reading, State.binding_of_unnamed unnamed]

/-! ### The forward modes (R166, R167) -/

/-- A forward decision by the descriptor's mode (R166). -/
theorem State.forward_eq {s : State} {sel : Selector} {c : SensorConfig} (present : (s.desc sel).config = some c)
    (payload : List Byte) (v : RefValue) :
    s.forward sel payload v =
      if c.mode = .enriched ∨ (c.mode = .changed ∧
          refChanged c.deadband (s.desc sel).forwarded { state := (s.desc sel).state, value := v } = true) then
        s.offered sel payload v
      else s := by
  unfold State.forward
  rw [present]
  dsimp only
  cases mode : c.mode with
  | off => exact (if_neg (by simp)).symm
  | raw => exact (if_neg (by simp)).symm
  | enriched => exact (if_pos (.inl rfl)).symm
  | changed =>
    unfold State.offerChanged
    dsimp only
    split
    · next changed => exact (if_pos (.inr ⟨rfl, changed⟩)).symm
    · next same => exact (if_neg (by simpa using same)).symm

/-- Two compared values differ: present in one only, or apart by the deadband (R167). -/
theorem valueMoved_iff (deadband : Nat) (a b : Option Int) :
    valueMoved deadband a b = true ↔ (a.isSome ≠ b.isSome) ∨
      ∃ x y, a = some x ∧ b = some y ∧ (deadband ≤ x - y ∨ deadband ≤ y - x) := by
  cases a with
  | none => cases b <;> simp [valueMoved]
  | some x =>
    cases b with
    | none => simp [valueMoved]
    | some y =>
      simp only [valueMoved, decide_eq_true_eq, Option.isSome_some, ne_eq, not_true_eq_false, false_or]
      constructor
      · intro apart
        exact ⟨x, y, rfl, rfl, by omega⟩
      · rintro ⟨x', y', first, second, apart⟩
        obtain rfl := Option.some.inj first
        obtain rfl := Option.some.inj second
        omega

/-- The row of R167 for the kind, or another kind than the reference's (log 30). -/
theorem refMoved_iff (deadband : Nat) (old new : RefValue) :
    refMoved deadband old new = true ↔
      match old, new with
      | .air a, .air b => valueMoved deadband a b = true
      | .surfaceFull i g m, .surfaceFull j h n => i ≠ j ∨ g ≠ h ∨ valueMoved deadband m n = true
      | .surfaceDetached, .surfaceDetached => False
      | .wetness a, .wetness b => a ≠ b
      | _, _ => True := by
  unfold refMoved
  split <;> simp [or_assoc]

theorem refChanged_iff (deadband : Nat) (old : Option ForwardRef) (new : ForwardRef) :
    refChanged deadband old new = true ↔
      ∀ r, old = some r → r.state ≠ new.state ∨ refMoved deadband r.value new.value = true := by
  cases old <;> simp [refChanged]

/-- Settles O27: the mode decides, and in mode CHANGED the test of R167. -/
theorem forwardingFollowsTheMode : Obligations.ForwardingFollowsTheMode := by
  unfold Obligations.ForwardingFollowsTheMode
  intro s sel payload v c present d apart differs changed offered
  have moved (old : RefValue) : refMoved c.deadband old v = true ↔ differs old := by
    rw [refMoved_iff]
    cases old <;> cases v <;> simp only [differs, apart, valueMoved_iff]
  have test : refChanged c.deadband d.forwarded { state := d.state, value := v } = true ↔ changed := by
    rw [refChanged_iff]
    simp only [moved]
    rfl
  have decision := State.forward_eq present payload v
  refine ⟨fun off => decision.trans (if_neg ?_), fun enriched => decision.trans (if_pos (.inl enriched)), fun mode =>
    ⟨fun change => decision.trans (if_pos (.inr ⟨mode, test.mpr change⟩)), fun same => decision.trans (if_neg ?_)⟩⟩
  · obtain off | raw := off
    · simp [off]
    · simp [raw]
  · rintro (enriched | ⟨-, change⟩)
    · exact nomatch mode.symm.trans enriched
    · exact same (test.mp change)

end Sys2Proof.Machine
end

section
/-! PROOFS. The completions of the engine's jobs (R20, R28, R41, R47 to R57, R63, R64, R69, R85, R89). -/

-- The text is compiled as a whole: side by side its proofs would need more threads than there is memory for.
set_option Elab.async false

namespace Sys2Proof.Machine

theorem State.updDesc_desc (s : State) (sel : Selector) (f : Descriptor → Descriptor) :
    (s.updDesc sel f).desc sel = f (s.desc sel) := s.setDesc_desc sel _

theorem State.updDesc_others (s : State) (sel : Selector) (f : Descriptor → Descriptor) :
    s.OtherDescs (s.updDesc sel f) sel := fun _ apart => s.setDesc_desc_ne _ apart

theorem State.Changes.zoneAt {s t : State} {fs : List Field} (h : s.Changes t fs) (zones : .zones ∉ fs) (z : Fin 32) :
    t.zone z = s.zone z := congrArg (fun v : Tbl 32 Zone => v.get z) (h.same .zones zones)

/-! ### AIR (R54) -/

theorem exec_airJobCompletion_settled {s : State} (settled : s.Settled) {sel : Selector} {t : Int} {rh : Nat} {cl sat : Bool}
    {gen ver : BitVec 8} (job : s.job = some (.air sel t rh cl sat gen ver)) :
    exec .airJobCompletion s = .next (s.deliverAir sel t rh cl sat gen ver).takeJob := by
  rw [exec_airJobCompletion, State.act_settled settled, State.completeAir, job]

/-- An air result reaches its descriptor, then its zone (R20, R63). -/
theorem State.accumulateAir_zones (s : State) (sel : Selector) (e : Nat) :
    ((s.desc sel).config = none → (s.accumulateAir sel e).zones = s.zones) ∧
      ∀ c, (s.desc sel).config = some c →
        (∀ z, z ≠ c.zone → (s.accumulateAir sel e).zone z = s.zone z) ∧
        (s.accumulateAir sel e).zone c.zone = (s.zone c.zone).accumulate c.weight.val e := by
  refine ⟨fun vacant => ?_, fun c present => ?_⟩
  · rw [State.accumulateAir, vacant]
  · rw [State.accumulateAir, present]
    exact ⟨fun z apart => State.setZone_zone_ne s _ apart, State.setZone_zone s _ _⟩

/-- Settles O28: the version, the descriptor, the zone, the forward mode and the next take. -/
theorem airCompletionDeliversOrDiscards : Obligations.AirCompletionDeliversOrDiscards := by
  unfold Obligations.AirCompletionDeliversOrDiscards
  intro s sel t rh cl sat gen ver settled job d b e td
  have stepped := exec_airJobCompletion_settled settled job
  refine ⟨fun moved => ?_, fun same => ?_⟩
  · rw [stepped, State.deliverAir, if_pos moved]
    rfl
  · let u := s.updDesc sel fun d => d.airDelivered e td (dewPoint b e).2 cl sat gen
    let v := u.accumulateAir sel e
    have delivered : s.deliverAir sel t rh cl sat gen ver =
        v.forward sel (airPayload sel (v.desc sel) false (some t) (some rh) (some (e, td))) (.air (some td)) :=
      if_neg (not_not.mpr same)
    have kept := u.accumulateAir_changes sel e
    have record : u.desc sel = d.airDelivered e td (dewPoint b e).2 cl sat gen := s.updDesc_desc sel _
    obtain ⟨vacant, present⟩ := u.accumulateAir_zones sel e
    rw [record] at vacant present
    refine ⟨v, stepped.trans (congrArg (fun x : State => Host.Outcome.next x.takeJob) delivered), fun x apart => ?_, ?_,
      vacant, present, ((s.updDesc_changes sel _).mono (by decide)).andThen kept⟩
    · exact (kept.desc (by decide) x).trans (s.updDesc_others sel _ x apart)
    · exact (kept.desc (by decide) sel).trans record

/-! ### ZONE (R57) -/

/-- Settles O30: the zone's result, its event, and the next take. -/
theorem zoneCompletionSetsValid : Obligations.ZoneCompletionSetsValid := by
  unfold Obligations.ZoneCompletionSetsValid
  intro s z p gen settled job b e td
  have stepped : exec .zoneJobCompletion s = .next (s.deliverZone z p gen).takeJob := by
    rw [exec_zoneJobCompletion, State.act_settled settled, State.completeZone, job]
  let u := s.updZone z fun r => { r with result := .valid e td }
  have delivered : s.deliverZone z p gen = u.raiseZone z := rfl
  have base : s.Changes u [.zones] := s.updZone_changes z _
  have told := u.raiseZone_changes z
  have record : u.zone z = { s.zone z with result := .valid e td } := s.setZone_zone z _
  rw [delivered] at stepped
  refine ⟨_, stepped, (told.zoneAt (by decide) z).trans record, fun y apart => ?_, ?_,
    (base.mono (by decide)).andThen told⟩
  · exact (told.zoneAt (by decide) y).trans (s.setZone_zone_ne _ apart)
  · unfold State.raiseZone
    dsimp only
    rw [record]
    cases summary : (s.zone z).summary with
    | true => exact base.sameReports.raise _
    | false => exact base.sameReports

/-! ### SURFACE (R55, R56) -/

/-- The record after an evaluation: the margin under its threshold set, or BLIND (R85, R89). -/
def Surface.evaluated (r : Surface) (t : ThrSet) (part : Option (Int × Source)) : Surface :=
  match part with
  | some (m, src) => r.graded t m src
  | none => r.blinded

/-- A record in use is evaluated with the job's margin where its probe is LIVE (R85 to R89). -/
theorem State.evaluate_regrades {s : State} {i : Fin 64} {k : SurfaceConfig} (used : (s.surface i).config = some k)
    (part : Option (Int × Source)) :
    s.Regrades (s.evaluate i part) i
      (((s.surface i).evaluated (s.thr.get k.thr)
        (if (s.desc k.probe).state = .live then part else none)).recounted (s.surface i).grade) := by
  have inUse : (s.surface i).config ≠ none := by simp [used]
  unfold State.evaluate
  dsimp only
  rw [used]
  dsimp only
  by_cases live : (s.desc k.probe).state = .live
  · cases part with
    | none => simpa [live, Surface.evaluated] using s.regrade_used inUse (r := (s.surface i).blinded) rfl
    | some mp =>
      obtain ⟨m, src⟩ := mp
      simpa [live, Surface.evaluated] using
        s.regrade_used inUse (r := (s.surface i).graded (s.thr.get k.thr) m src) rfl
  · simpa [live, Surface.evaluated] using s.regrade_used inUse (r := (s.surface i).blinded) rfl

theorem Surface.graded_recounted (r : Surface) (t : ThrSet) (m : Int) (src : Source) :
    (r.graded t m src).recounted r.grade =
      { r with
        grade := (gradeStep t r m).1, dwell := (gradeStep t r m).2, margin := some m, source := some src
        changes := if (gradeStep t r m).1 = r.grade then r.changes else min (r.changes + 1) 65535 } := by
  unfold Surface.recounted Surface.graded satInc
  by_cases same : (gradeStep t r m).1 = r.grade
  · simp [same]
  · simp [same]

/-- A record out of use is not evaluated (R77). -/
theorem State.evaluate_unused {s : State} {i : Fin 64} (unused : (s.surface i).config = none)
    (part : Option (Int × Source)) : s.evaluate i part = s := by
  unfold State.evaluate
  dsimp only
  rw [unused]

theorem Surface.evaluated_config (r : Surface) (t : ThrSet) (part : Option (Int × Source)) :
    (r.evaluated t part).config = r.config := by
  cases part <;> rfl

/-! The three ways of a SURFACE result that its descriptor still takes (R55, R56). -/

section
variable {s : State} {sel : Selector} {t : Int} {ver : BitVec 8} (same : (s.desc sel).version = ver)
include same

theorem State.deliverSurface_unbound :
    s.deliverSurface sel t ver none = (s.updDesc sel Descriptor.surfaceDelivered).forwardDetached sel t :=
  if_neg (not_not.mpr same)

theorem State.deliverSurface_moved {b : Binding} (moved : (s.surface b.surface).version ≠ b.version) :
    s.deliverSurface sel t ver (some b) =
      (s.updDesc sel Descriptor.surfaceDelivered).discard.forwardDetached sel t :=
  (if_neg (not_not.mpr same)).trans (if_pos moved)

theorem State.deliverSurface_bound {b : Binding} (bound : (s.surface b.surface).version = b.version) :
    s.deliverSurface sel t ver (some b) =
      ((s.updDesc sel Descriptor.surfaceDelivered).evaluate b.surface (surfacePart t b.capture)).forwardFull sel t b :=
  (if_neg (not_not.mpr same)).trans (if_neg (not_not.mpr bound))

end

/-- A full frame's forward decision by the capture it can use (R56). -/
theorem State.forwardFull_eq (v : State) (sel : Selector) (t : Int) (b : Binding) {cap : Capture}
    (usable : v.usableCapture b.surface b.capture = cap) :
    v.forwardFull sel t b =
      v.forward sel
        (surfacePayload sel (v.desc sel) b.surface t cap (cap.map fun x => t - x.1) (v.surface b.surface).grade)
        (.surfaceFull b.surface (v.surface b.surface).grade (cap.map fun x => t - x.1)) := by
  subst usable
  rfl

/-- The record that a bound job's evaluation leaves, by whether its capture can be used (R85 to R89). -/
theorem evaluated_cases (r : Surface) (thr : ThrSet) (t : Int) (capture : Capture) (usable : Prop) [Decidable usable] :
    let after := (r.evaluated thr (if usable then surfacePart t capture else none)).recounted r.grade
    (∀ td src, capture = some (td, src) → usable → after =
        { r with
          grade := (gradeStep thr r (t - td)).1, dwell := (gradeStep thr r (t - td)).2
          margin := some (t - td), source := some src
          changes := if (gradeStep thr r (t - td)).1 = r.grade then r.changes else min (r.changes + 1) 65535 }) ∧
      (capture = none ∨ ¬ usable → after =
        { r with
          grade := if r.confirmed then r.grade else .blind
          dwell := 0, margin := none, source := none
          changes := if r.confirmed = true ∨ r.grade = .blind then r.changes else min (r.changes + 1) 65535 }) := by
  refine ⟨fun td src captured live => ?_, fun blind => ?_⟩
  · rw [captured, if_pos live]
    exact r.graded_recounted thr (t - td) src
  · have nothing : (if usable then surfacePart t capture else none) = none := by
      obtain uncaptured | dead := blind
      · rw [uncaptured]
        exact ite_self _
      · exact if_neg dead
    rw [nothing]
    exact r.blinded_recounted

/-- Settles O29: the version, the binding, the evaluation, the forward mode and the next take. -/
theorem surfaceCompletionGradesOrDiscards : Obligations.SurfaceCompletionGradesOrDiscards := by
  unfold Obligations.SurfaceCompletionGradesOrDiscards
  intro s sel t cl gen ver bind settled job d more
  have stepped : exec .surfaceJobCompletion s = .next (s.deliverSurface sel t ver bind).takeJob := by
    rw [exec_surfaceJobCompletion, State.act_settled settled, State.completeSurface, job]
  refine ⟨fun moved => ?_, fun same => ?_⟩
  · rw [stepped, State.deliverSurface, if_pos moved]
    rfl
  let u := s.updDesc sel Descriptor.surfaceDelivered
  have base : s.Changes u [.sdt] := s.updDesc_changes sel _
  have record : u.desc sel = { d with accessed := true, unevaluated := false } := s.updDesc_desc sel _
  have others : s.OtherDescs u sel := s.updDesc_others sel _
  have state (x : Selector) : (u.desc x).state = (s.desc x).state := by
    by_cases here : x = sel
    · rw [here, record]
      rfl
    · rw [others x here]
  have unread {b c : Binding} {p : Prop} (eq : some b = some c) (no : (s.surface b.surface).version ≠ b.version)
      (yes : (s.surface c.surface).version = c.version) : p := by
    obtain rfl := Option.some.inj eq
    exact absurd yes no
  cases bind with
  | none =>
    rw [State.deliverSurface_unbound same] at stepped
    exact ⟨u, _, _, stepped, others, record, base.mono (by decide), .of_zones rfl,
      fun _ => ⟨rfl, rfl, rfl, rfl, rfl, rfl⟩, nofun, nofun⟩
  | some b =>
    by_cases version : (s.surface b.surface).version = b.version
    case neg =>
      rw [State.deliverSurface_moved same version] at stepped
      exact ⟨u.discard, _, _, stepped, others, record, (base.mono (by decide)).andThen (u.count_changes _),
        .of_zones rfl, fun _ => ⟨rfl, rfl, rfl, rfl, rfl, rfl⟩, fun c eq yes => unread eq version yes,
        fun c k eq yes => unread eq version yes⟩
    case pos =>
      have notStale {p : Prop} (stale : some b = none ∨ ∃ c, some b = some c ∧ (s.surface c.surface).version ≠ c.version) :
          p := by
        obtain unbound | ⟨c, eq, no⟩ := stale
        · exact nomatch unbound
        · exact absurd (Option.some.inj eq ▸ version) no
      rw [State.deliverSurface_bound same version] at stepped
      cases config : (s.surface b.surface).config with
      | none =>
        have kept : u.evaluate b.surface (surfacePart t b.capture) = u := State.evaluate_unused (s := u) config _
        rw [kept, State.forwardFull_eq u sel t b (cap := none)
          (by rw [State.usableCapture, show (u.surface b.surface).config = none from config])] at stepped
        refine ⟨u, _, _, stepped, others, record, base.mono (by decide), .of_zones rfl, notStale, fun c eq _ _ => ?_,
          fun c k eq _ used => ?_⟩
        · obtain rfl := Option.some.inj eq
          exact ⟨rfl, rfl, base⟩
        · obtain rfl := Option.some.inj eq
          exact nomatch config.symm.trans used
      | some k =>
        let v := u.evaluate b.surface (surfacePart t b.capture)
        have graded := State.evaluate_regrades (s := u) (i := b.surface) config (surfacePart t b.capture)
        have changes := u.evaluate_changes b.surface (surfacePart t b.capture)
        have descs (x : Selector) : v.desc x = u.desc x := changes.desc (by decide) x
        have usable : v.usableCapture b.surface b.capture =
            if (s.desc k.probe).state = .live then b.capture else none := by
          have inUse : (v.surface b.surface).config = some k := by
            rw [graded.surface, Surface.recounted_config, Surface.evaluated_config]
            exact config
          rw [State.usableCapture, inUse]
          dsimp only
          rw [descs, state]
        rw [State.forwardFull_eq v sel t b usable] at stepped
        refine ⟨v, _, _, stepped, fun x apart => (descs x).trans (others x apart), (descs sel).trans record,
          (base.mono (by decide)).andThen changes, (State.ZonesKept.of_zones rfl).trans graded.zones, notStale,
          fun c eq _ unused => ?_, fun c l eq _ used => ?_⟩
        · obtain rfl := Option.some.inj eq
          exact nomatch config.symm.trans unused
        · obtain rfl := Option.some.inj eq
          obtain rfl := Option.some.inj (config.symm.trans used)
          have cases := evaluated_cases (s.surface b.surface) (s.thr.get k.thr) t b.capture
            ((s.desc k.probe).state = .live)
          have after := graded.surface
          rw [state] at after
          refine ⟨rfl, rfl, base.sameReports.raiseAll _ |>.trans graded.grades.reports, graded.others,
            fun td src captured live => after.trans (cases.1 td src captured live), fun blind => after.trans (cases.2 blind)⟩

end Sys2Proof.Machine
end

section
/-! PROOFS. The completions of the management engine (R33, R34, R172, R177), and the effect of a RESTART (R185, R192). -/

-- The text is compiled as a whole: side by side its proofs would need more threads than there is memory for.
set_option Elab.async false

namespace Sys2Proof.Machine

/-! ### The commit check -/

theorem RisingSteps.of_adjacent {b : Bank}
    (rises : ∀ i j : Fin 251, j.val = i.val + 1 → (b.get i).toNat < (b.get j).toNat) : RisingSteps b.cells := by
  intro k inside
  have length : b.cells.length = 251 := b.size
  have entry (k : Nat) (hk : k < 251) : (b.cells.getD k 0).toNat = (b.get ⟨k, hk⟩).toNat := Bank.entry_eq_get b ⟨k, hk⟩
  rw [entry k (by omega), entry (k + 1) (by omega)]
  exact rises _ _ rfl

/-- An E[0] of 0 is the first offending entry (R34). -/
theorem Bank.failure_of_zero {b : Bank} (zero : (b.get 0).toNat = 0) : Bank.failure b = some 0 := by
  rw [← Bank.entry_eq_get] at zero
  have first : (0 : Fin 251).val = 0 := rfl
  rw [first] at zero
  rw [Bank.failure, if_pos zero]

section
variable {s : State} {q : Request} (checking : s.mgmt = .committing q)
include checking

theorem State.commitEnds_passed (passed : Bank.failure s.svt.shadow = none) :
    s.commitEnds = (s.swapBanks.setMgmt .idle).handReply q.port
      (s.replyFrame q (committed q.payload (s.svt.gen + 1))) .mgmt := by
  simp only [State.commitEnds, checking, passed]

theorem State.commitEnds_failed {i : Nat} (failed : Bank.failure s.svt.shadow = some i) :
    s.commitEnds = (s.setMgmt .idle).handReply q.port
      (s.replyFrame q (notCommitted q.payload i s.svt.gen)) .mgmt := by
  simp only [State.commitEnds, checking, failed]

end

/-- Settles O32: the three outcomes of the check, and the reply handed to U. -/
theorem commitCheckSwapsOrReports : Obligations.CommitCheckSwapsOrReports := by
  unfold Obligations.CommitCheckSwapsOrReports
  intro s q settled checking fromU
  obtain ⟨port, tag, srcNode, level, payload⟩ := q
  obtain rfl : port = .u := fromU
  intro E reply
  have failing {i : Nat} (failed : Bank.failure s.svt.shadow = some i) :
      exec .commitCheckCompletion s = .next { s with
        mgmt := .idle, turn := s.turn.handed (reply 7 (BitVec.ofNat 8 i) s.svt.gen) .mgmt } := by
    rw [exec_commitCheckCompletion, State.act_settled settled, State.commitEnds_failed checking failed,
      State.handReply_u]
    rfl
  refine ⟨fun first rises => ?_, fun zero => failing (Bank.failure_of_zero zero), fun first i j next fall before =>
    failing (Bank.failure_eq_some first next fall before)⟩
  have passed : Bank.failure s.svt.shadow = none := by
    rw [Bank.failure_eq_none_iff, ← Bank.risingSteps_iff]
    exact ⟨first, .of_adjacent rises⟩
  rw [exec_commitCheckCompletion, State.act_settled settled, State.commitEnds_passed checking passed,
    State.handReply_u]
  rfl

/-! ### Serving ends -/

theorem PortRec.handReply_down {r : PortRec} (down : r.rx = .down) (f : Frame) : r.handReply f =
    { r with owed := false, count := { r.count with replyDropped := min (r.count.replyDropped + 1) 65535 } } := by
  have dark : ¬ r.up = true := fun up => (r.up_iff).mp up down
  rw [PortRec.handReply, if_neg dark, satInc_eq]

/-- Settles O33: the engine is IDLE, and the reply goes its port's way. -/
theorem serviceCompletionHandsTheReplyOver : Obligations.ServiceCompletionHandsTheReplyOver := by
  unfold Obligations.ServiceCompletionHandsTheReplyOver
  intro s q f settled serving s1 r
  have ended : exec .serviceCompletion s = .next (s1.handReply q.port f .mgmt) := by
    rw [exec_serviceCompletion, State.act_settled settled, State.serviceEnds, serving]
  rw [ended]
  refine ⟨fun u => ?_, ?_⟩
  · rw [u, State.handReply_u]
    rfl
  have floor (notU : q.port ≠ .u) : s1.handReply q.port f .mgmt = s1.setPort q.port (r.handReply f) := by
    cases port : q.port with
    | u => exact absurd port notU
    | floor p =>
      show s1.setPort (.floor p) ((s.port (.floor p)).handReply f) = s1.setPort (.floor p) ((s.port q.port).handReply f)
      rw [port]
  refine ⟨fun notU up idle => ?_, fun notU up busy => ?_, fun notU down => ?_⟩
  · rw [floor notU, PortRec.handReply_idle up idle]
  · rw [floor notU, PortRec.handReply_sending up busy]
  · rw [floor notU, PortRec.handReply_down down]

/-! ### The events of a start -/

/-- An event whose loss does not set the latch touches slots and counters alone (R106, R108). -/
theorem State.raise_quiet {e : Event} (quiet : e.alarming = false) (s : State) :
    s.Changes (s.raise e) [.slots, .counters] := by
  have lost : s.loseEvent e = s.count fun c => { c with reportLoss := satInc c.reportLoss } := by
    simp [State.loseEvent, quiet]
  rcases s.raise_cases e with ⟨i, -, -, raised⟩ | ⟨-, ⟨i, -, -, raised⟩ | ⟨-, raised⟩⟩ <;> rw [raised]
  · exact (s.setSlot_changes _ _).mono (by decide)
  · exact (s.setSlot_changes _ _).mono (by decide)
  · rw [lost]
    exact (s.count_changes _).mono (by decide)

theorem State.raiseAll_quiet {es : List Event} (quiet : ∀ e ∈ es, e.alarming = false) (s : State) :
    s.Changes (s.raiseAll es) [.slots, .counters] := by
  induction es generalizing s with
  | nil => exact .refl s _
  | cons e es ih =>
    exact (State.raise_quiet (quiet e (List.mem_cons_self ..)) s).andThen
      (ih (fun x later => quiet x (List.mem_cons_of_mem _ later)) _)

/-- The LINK_LOST events of the ports among some that are DOWN. -/
def State.darkEvents (s : State) (ports : List FloorPort) : List Event :=
  ports.filterMap fun q =>
    if (s.port (.floor q)).rx = .down then some (.link (floorIdx q).castSucc .lost) else none

theorem State.darkEvents_congr {s t : State}
    (h : ∀ q : FloorPort, (t.port (.floor q)).rx = .down ↔ (s.port (.floor q)).rx = .down) (ports : List FloorPort) :
    t.darkEvents ports = s.darkEvents ports := by
  simp only [State.darkEvents, h]

theorem State.raiseDark_eq (s : State) : s.raiseDark = s.raiseAll (s.darkEvents floorPorts) := by
  unfold State.raiseDark
  generalize floorPorts = ports
  induction ports generalizing s with
  | nil => rfl
  | cons p ports ih =>
    by_cases down : (s.port (.floor p)).rx = .down
    · have dark : ¬ (s.port (.floor p)).up = true := fun up => ((s.port (.floor p)).up_iff).mp up down
      have events : s.darkEvents (p :: ports) = .link (floorIdx p).castSucc .lost :: s.darkEvents ports := by
        simp [State.darkEvents, down]
      rw [List.foldl_cons, if_neg dark, ih, events, State.raiseAll, State.raiseAll, List.foldl_cons,
        State.darkEvents_congr (s := s) fun q => by rw [State.raise_port]]
    · have up : (s.port (.floor p)).up = true := ((s.port (.floor p)).up_iff).mpr down
      have events : s.darkEvents (p :: ports) = s.darkEvents ports := by
        simp [State.darkEvents, down]
      rw [List.foldl_cons, if_pos up, ih, events]

/-! ### The worst grade of a zone whose surfaces are BLIND -/

section
variable {s : State} {z : Fin 32} (h : s.WorstAt z)
include h

theorem State.WorstAt.of_empty (out : ∀ i, ¬ s.InZone z i) : (s.zone z).worst = none := by
  match (s.zone z).worst, h.stands with
  | none, _ => rfl
  | some (_, i), ⟨inside, _⟩ => exact absurd inside (out i)

/-- Of equal grades the lowest-numbered surface is the worst (R71). -/
theorem State.WorstAt.of_blind (blind : ∀ i, (s.surface i).grade = .blind) {i : Fin 64}
    (member : s.InZone z i) (lowest : ∀ j, j < i → ¬ s.InZone z j) : (s.zone z).worst = some (.blind, i) := by
  match (s.zone z).worst, h.stands with
  | none, out => exact absurd member (out i)
  | some (g, j), ⟨inside, holds, _, first⟩ =>
    obtain rfl : g = .blind := holds.symm.trans (blind j)
    have atLeast : ¬ j < i := fun less => lowest j less inside
    have atMost : ¬ i < j := fun less => first i less member (blind i)
    rw [show j = i from Fin.le_antisymm (Fin.not_lt.mp atMost) (Fin.not_lt.mp atLeast)]

end

/-! ### RESTART -/

section
variable (s : State)

theorem State.restartValues_desc (sel : Selector) : s.restartValues.desc sel = (s.desc sel).restarted :=
  Tbl.get_map _ _ _

theorem State.restartValues_surface (i : Fin 64) : s.restartValues.surface i = (s.surface i).restarted :=
  Tbl.get_map _ _ _

theorem State.restartValues_zone (z : Fin 32) : s.restartValues.zone z = (s.zone z).restarted := Tbl.get_map _ _ _

theorem State.restartValues_slot (i : Fin 16) : s.restartValues.slot i = (s.slot i).restarted := Tbl.get_map _ _ _

theorem State.restartValues_port (p : Port) : s.restartValues.port p = (s.port p).restarted := Tbl.get_map _ _ _

theorem PortRec.restarted_rx (r : PortRec) : r.restarted.rx = if r.rx = .down then .down else .hunting := by
  by_cases down : r.rx = .down <;> simp [PortRec.restarted, PortRec.up, down]

theorem PortRec.restarted_down (r : PortRec) : r.restarted.rx = .down ↔ r.rx = .down := by
  rw [PortRec.restarted_rx]
  by_cases down : r.rx = .down <;> simp [down]

theorem State.restartValues_tablesEmpty : s.restartValues.tablesEmpty = s.tablesEmpty := by
  simp only [State.tablesEmpty, State.restartValues, Tbl.map, List.all_map]
  rfl

/-- The events of a RESTART: WARM START, then the dark ports in ascending order (R118, R137, R192). -/
def State.restartEvents : List Event :=
  .start s.unitNo true s.svt.gen s.tablesEmpty :: s.darkEvents floorPorts

theorem State.restartEvents_quiet : ∀ e ∈ s.restartEvents, e.alarming = false := by
  intro e told
  rcases List.mem_cons.mp told with rfl | dark
  · rfl
  · obtain ⟨q, -, link⟩ := List.mem_filterMap.mp dark
    split at link
    · obtain rfl := Option.some.inj link
      rfl
    · exact absurd link (by simp)

/-- Every block's restart values, the zones encoded again and the CONDENSE line evaluated, before any event. -/
def State.restarting : State := s.restartValues.reencodeAll.evalCondense

theorem State.restarting_changes : s.restartValues.Changes s.restarting [.zones, .condense] :=
  (s.restartValues.reencodeAll_changes.mono (by decide)).andThen (State.evalCondense_changes _)

theorem State.restartEffect_eq : s.restartEffect = s.restarting.raiseAll s.restartEvents := by
  have kept := s.restarting_changes
  have told : s.restarting.raiseStart true =
      s.restarting.raise (.start s.unitNo true s.svt.gen s.tablesEmpty) := by
    have unitNo : s.restarting.unitNo = s.unitNo := kept.same .unitNo (by decide)
    have svt : s.restarting.svt = s.svt := kept.same .svt (by decide)
    have sdt : s.restarting.sdt = s.restartValues.sdt := kept.same .sdt (by decide)
    have surfaces : s.restarting.surfaces = s.restartValues.surfaces := kept.same .surfaces (by decide)
    have empty : s.restarting.tablesEmpty = s.tablesEmpty := by
      rw [← s.restartValues_tablesEmpty, State.tablesEmpty, State.tablesEmpty, sdt, surfaces]
    rw [State.raiseStart, unitNo, svt, empty]
  show (s.restarting.raiseStart true).raiseDark = _
  rw [told, State.raiseDark_eq, State.restartEvents, State.raiseAll, State.raiseAll, List.foldl_cons]
  congr 1
  refine State.darkEvents_congr (fun q => ?_) _
  rw [State.raise_port, kept.port (by decide), State.restartValues_port, PortRec.restarted_down]

/-- Of the restart values the events touch slots and counters, the two evaluations the zones and the line. -/
theorem State.restartEffect_changes :
    s.restartValues.Changes s.restartEffect [.zones, .condense, .slots, .counters] := by
  rw [State.restartEffect_eq]
  exact (s.restarting_changes.mono (gs := [.zones, .condense, .slots, .counters]) (by decide)).andThen
    (State.raiseAll_quiet s.restartEvents_quiet _)

theorem State.reencodeAll_zonesKept : s.ZonesKept s.reencodeAll := by
  unfold State.reencodeAll
  generalize List.finRange 32 = zones
  induction zones generalizing s with
  | nil => exact .refl s
  | cons z zones ih => exact (s.reencode_zonesKept z).trans (ih _)

/-- With every grade BLIND, the latch and SILENT clear, the line is released (R189, R192). -/
theorem State.restarting_condense : s.restarting.condense = false := by
  have blind (gs : List Grade) (h : Grade.blind ∉ gs) : s.restartValues.reencodeAll.anySurface gs = false := by
    rw [Bool.eq_false_iff, Ne, State.anySurface_iff]
    rintro ⟨i, -, graded⟩
    rw [s.restartValues.reencodeAll_changes.surface (by decide), State.restartValues_surface] at graded
    exact h graded
  have kept := s.restartValues.reencodeAll_changes
  have latch : s.restartValues.reencodeAll.alarmLoss = false := kept.same .alarmLoss (by decide)
  have turn : s.restartValues.reencodeAll.turn = Turn.powerOn := kept.same .turn (by decide)
  show s.restartValues.reencodeAll.condenseDue = false
  rw [State.condenseDue, blind _ (by decide), blind _ (by decide), latch, turn]
  rfl

theorem State.restartValues_inZone (z : Fin 32) (i : Fin 64) : s.restartValues.InZone z i ↔ s.InZone z i := by
  simp only [State.InZone, State.restartValues_surface]
  rfl

theorem State.restartEffect_zonesKept : s.restartValues.ZonesKept s.restartEffect := by
  rw [State.restartEffect_eq]
  exact s.restartValues.reencodeAll_zonesKept.trans
    (.of_zones ((State.raiseAll_quiet s.restartEvents_quiet s.restarting).same .zones (by decide)))

/-- Every zone's worst grade was encoded after the records took their restart values (R72, R76). -/
theorem State.restartEffect_worstAt (z : Fin 32) : s.restartEffect.WorstAt z := by
  have encoded : s.restarting.WorstAt z :=
    (State.evalCondense_changes _).worstAt (by decide) (by decide) (s.restartValues.reencodeAll_worstAt z)
  rw [State.restartEffect_eq]
  exact (State.raiseAll_quiet s.restartEvents_quiet s.restarting).worstAt (by decide) (by decide) encoded

end

/-- Settles O34: the restart values, then the zones, the line and the events, each of which leaves what the others
set. -/
theorem restartKeepsTablesAndClearsLiveState : Obligations.RestartKeepsTablesAndClearsLiveState := by
  unfold Obligations.RestartKeepsTablesAndClearsLiveState
  intro s running due cleared events
  have kept := s.restartEffect_changes
  have condense : s.restartEffect.condense = false := by
    rw [← s.restarting_condense, State.restartEffect_eq]
    exact (State.raiseAll_quiet s.restartEvents_quiet _).same .condense (by decide)
  have surface (i : Fin 64) : s.restartEffect.surface i = (s.surface i).restarted :=
    (kept.surface (by decide)).trans (s.restartValues_surface i)
  have inZone (z : Fin 32) (i : Fin 64) : s.restartEffect.InZone z i ↔ s.InZone z i := by
    rw [← s.restartValues_inZone]
    simp only [State.InZone, kept.surface (by decide)]
  have blind (i : Fin 64) : (s.restartEffect.surface i).grade = .blind := by
    rw [surface]
    rfl
  have stepped : exec .restartTakesEffect s = .next s.restartEffect := by
    rw [exec_restartTakesEffect, State.actDue_due running due]
  refine ⟨s.restartEffect, s.restartValues, stepped, ?_⟩
  refine ⟨?_, ?_, ?_, ?_, ?_, ?_, ?_, rfl, rfl, ?_, ?_, ?_⟩
  · have values : s.Changes s.restartValues ([.ports, .sdt, .evalQueue, .zoneClose, .job, .zones, .epochCount,
        .surfaces, .turn, .mgmt, .due] ++ reportFields) := by
      intro f apart
      cases f
      case power | pins | unitNo | svt | thr | config | pending => rfl
      all_goals exact absurd (by decide) apart
    exact values.andThen (kept.mono (gs := .zones :: reportFields) (by decide))
  · exact fun sel => (kept.desc (by decide) sel).trans (s.restartValues_desc sel)
  · exact surface
  · intro z
    have kept := s.restartEffect_zonesKept z
    rw [State.restartValues_zone] at kept
    exact kept
  · exact fun z i member lowest => (s.restartEffect_worstAt z).of_blind blind ((inZone z i).mpr member)
      fun j less inside => lowest j less ((inZone z j).mp inside)
  · exact fun z out => (s.restartEffect_worstAt z).of_empty fun i inside => out i ((inZone z i).mp inside)
  · exact fun i => s.restartValues_slot i
  · have before : s.restartValues.SameReports s.restarting := s.restarting_changes.sameReports
    rw [State.restartEffect_eq]
    exact before.raiseAll s.restartEvents
  · exact ⟨kept.same .evalQueue (by decide), kept.same .job (by decide), kept.same .epochCount (by decide),
      kept.same .mgmt (by decide), kept.same .alarmLoss (by decide), condense, kept.same .due (by decide),
      kept.same .turn (by decide), fun z => by
        rw [show s.restartEffect.zoneClose = Tbl.fill 32 none from kept.same .zoneClose (by decide), Tbl.get_fill]⟩
  · intro p
    rw [kept.port (by decide), State.restartValues_port]
    rw [← PortRec.restarted_rx]
    cases tx : (s.port p).tx <;> simp only [PortRec.restarted, tx]

end Sys2Proof.Machine
end

section
/-! PROOFS. The turn controller: the source a frame opportunity chooses, the turn a GRANT begins, and the answer to a
POLL (R115, R158 to R161, R163, R194). -/

-- The text is compiled as a whole: side by side its proofs would need more threads than there is memory for.
set_option Elab.async false

namespace Sys2Proof.Machine

/-! ### A frame opportunity -/

section
variable {s : State}

theorem State.releaseFlags_eq (s : State) :
    s.releaseFlags = (if s.turn.silenceSeen then 1 else 0) + (if s.alarmLoss then 2 else 0)
      + (if s.condense then 4 else 0) := by
  unfold State.releaseFlags
  cases s.turn.silenceSeen <;> cases s.alarmLoss <;> cases s.condense <;> rfl

theorem State.commitQueued_slot {i : Fin 16} (found : s.firstPending = some i)
    (guard : s.turn.fq = [] ∨ s.turn.run < 4) : s.commitQueued = s.commitSlot i := by
  unfold State.commitQueued
  rw [found]
  cases queue : s.turn.fq with
  | nil => rfl
  | cons f rest =>
    have run : ¬ Config.starvationRun ≤ s.turn.run := Nat.not_le_of_lt (guard.resolve_left (by simp [queue]))
    exact if_neg run

theorem State.commitQueued_forward {f : Frame} {rest : List Frame} (queue : s.turn.fq = f :: rest)
    (guard : s.firstPending = none ∨ 4 ≤ s.turn.run) : s.commitQueued = s.commitForward f rest := by
  unfold State.commitQueued
  rw [queue]
  cases found : s.firstPending with
  | none => rfl
  | some i =>
    have run : Config.starvationRun ≤ s.turn.run := guard.resolve_left (by simp [found])
    exact if_pos run

theorem State.commitQueued_release (queue : s.turn.fq = []) (found : s.firstPending = none) :
    s.commitQueued = s.commitRelease := by
  unfold State.commitQueued
  rw [queue, found]

end

/-- Settles O36: the four sources and the RELEASE, each under its test. -/
theorem frameOpportunityChoosesTheSource : Obligations.FrameOpportunityChoosesTheSource := by
  unfold Obligations.FrameOpportunityChoosesTheSource
  intro s t release
  have released : s.commitRelease = s.setTurn
      { t with withU := some { frame := release, source := .release t.silenceSeen } } := by
    have frame : s.releaseFrame = release := by
      rw [State.releaseFrame, State.releaseFlags_eq]
      rfl
    rw [State.commitRelease, frame]
    rfl
  refine ⟨fun nothing => ?_, fun left => ⟨fun r rest reply => ?_, fun noReply guard i pending lowest => ?_,
    fun noReply guard f rest queue => ?_⟩⟩
  · rw [← released]
    by_cases spent : t.budget ≤ t.sent
    · exact State.frameOpportunity_spent spent
    · obtain ⟨noReply, noSlot, noFrame⟩ := nothing.resolve_left spent
      rw [State.frameOpportunity_queued (Nat.lt_of_not_le spent) noReply,
        State.commitQueued_release noFrame (State.firstPending_none noSlot)]
  · rw [State.frameOpportunity_reply left reply]
    rfl
  · rw [State.frameOpportunity_queued left noReply,
      State.commitQueued_slot (State.firstPending_some pending lowest) guard]
    rfl
  · rw [State.frameOpportunity_queued left noReply,
      State.commitQueued_forward queue (guard.imp_left State.firstPending_none)]
    rfl

/-- Whatever it chooses, a frame opportunity commits one frame. -/
theorem State.frameOpportunity_cases (s : State) :
    s.frameOpportunity = s.commitRelease ∨ (∃ r rest, s.frameOpportunity = s.commitTurnReply r rest) ∨
      (∃ i, s.frameOpportunity = s.commitSlot i) ∨ ∃ f rest, s.frameOpportunity = s.commitForward f rest := by
  unfold State.frameOpportunity State.commitQueued
  split
  · exact .inl rfl
  · split
    · exact .inr (.inl ⟨_, _, rfl⟩)
    · split
      · split
        · exact .inr (.inr (.inr ⟨_, _, rfl⟩))
        · exact .inr (.inr (.inl ⟨_, rfl⟩))
      · exact .inr (.inr (.inr ⟨_, _, rfl⟩))
      · exact .inr (.inr (.inl ⟨_, rfl⟩))
      · exact .inl rfl

/-! ### The turn a GRANT begins -/

/-- The turn goes on with a frame committed, at most one more than it had sent. -/
structure Turn.Opens (t u : Turn) : Prop where
  state : u.state = t.state
  budget : u.budget = t.budget
  tag : u.tag = t.tag
  silence : u.silence = t.silence
  silent : u.silent = t.silent
  silenceSeen : u.silenceSeen = t.silenceSeen
  committed : u.withU ≠ none
  sent : u.sent ≤ t.sent + 1

theorem State.frameOpportunity_opens (s : State) : s.turn.Opens s.frameOpportunity.turn := by
  rcases s.frameOpportunity_cases with h | ⟨r, rest, h⟩ | ⟨i, h⟩ | ⟨f, rest, h⟩ <;> rw [h]
  · exact ⟨rfl, rfl, rfl, rfl, rfl, rfl, Option.some_ne_none _, Nat.le_succ _⟩
  all_goals exact ⟨rfl, rfl, rfl, rfl, rfl, rfl, Option.some_ne_none _, Nat.le_refl _⟩

section
variable {t : Turn}

theorem Turn.takeBack_room (room : t.fq.length < 32) (f : Frame) : t.takeBack f = { t with fq := f :: t.fq } :=
  if_pos room

/-- Into a full queue a frame returns in the place of the newest (log 12). -/
theorem Turn.takeBack_full (full : 32 ≤ t.fq.length) (f : Frame) : t.takeBack f =
    { t with fq := f :: t.fq.take 31, forwardDrop := min (t.forwardDrop + 1) 65535 } := by
  rw [Turn.takeBack, if_neg (Nat.not_lt_of_le full), satInc_eq]
  rfl

end

/-- The turn as a GRANT begins it, before a waiting frame is settled (R158). -/
def Turn.begun (t : Turn) (budget : Nat) (tag : Byte) : Turn :=
  { t with state := .turn, budget := budget, sent := 0, run := 0, tag := tag }

section
variable (s : State) (budget : Nat) (tag : Byte)

theorem State.beginTurn_free (free : s.turn.withU = none) :
    s.beginTurn budget tag = (s.setTurn { s.turn.begun budget tag with withU := none }).frameOpportunity := by
  have kept : s.setTurn { s.turn.begun budget tag with withU := none } = s.setTurn (s.turn.begun budget tag) := by
    rw [← free]
    rfl
  rw [kept]
  unfold State.beginTurn
  dsimp only [State.updTurn]
  split
  · rfl
  · next c waits => exact absurd (waits.symm.trans free) (by simp)

section
variable {s budget}
variable {c : Committed} (waits : s.turn.withU = some c)
include waits

theorem State.beginTurn_carried (carried : c.source.carried = true) (some : 1 ≤ budget) :
    s.beginTurn budget tag = s.setTurn
      { s.turn.begun budget tag with sent := 1, run := if c.source.isSlot then 1 else 0 } := by
  unfold State.beginTurn
  dsimp only [State.updTurn]
  split
  · next free => exact absurd (free.symm.trans waits) (by simp)
  · next d found =>
    obtain rfl := Option.some.inj (waits.symm.trans found)
    exact if_pos ⟨carried, some⟩

theorem State.beginTurn_withdrawn (back : ¬ (c.source.carried = true ∧ 1 ≤ budget)) :
    s.beginTurn budget tag = ((s.setTurn (s.turn.begun budget tag)).withdraw c).frameOpportunity := by
  unfold State.beginTurn
  dsimp only [State.updTurn]
  split
  · next free => exact absurd (free.symm.trans waits) (by simp)
  · next d found =>
    obtain rfl := Option.some.inj (waits.symm.trans found)
    exact if_neg back

end

theorem State.withdraw_turn (c : Committed) : (s.withdraw c).turn.state = s.turn.state ∧
    (s.withdraw c).turn.budget = s.turn.budget ∧ (s.withdraw c).turn.tag = s.turn.tag ∧
    (s.withdraw c).turn.silence = s.turn.silence ∧ (s.withdraw c).turn.silent = s.turn.silent ∧
    (s.withdraw c).turn.silenceSeen = s.turn.silenceSeen ∧ (s.withdraw c).turn.sent = s.turn.sent := by
  unfold State.withdraw
  dsimp only
  split
  · exact ⟨rfl, rfl, rfl, rfl, rfl, rfl, rfl⟩
  · exact ⟨rfl, rfl, rfl, rfl, rfl, rfl, rfl⟩
  · dsimp only [State.updTurn, State.setTurn, Turn.takeBack]
    split <;> exact ⟨rfl, rfl, rfl, rfl, rfl, rfl, rfl⟩
  · exact ⟨rfl, rfl, rfl, rfl, rfl, rfl, rfl⟩

theorem State.beginTurn_opens : (s.turn.begun budget tag).Opens (s.beginTurn budget tag).turn := by
  cases waits : s.turn.withU with
  | none =>
    rw [s.beginTurn_free budget tag waits]
    obtain ⟨state, budget', tag', silence, silent, seen, committed, sent⟩ := State.frameOpportunity_opens
      (s.setTurn { s.turn.begun budget tag with withU := none })
    exact ⟨state, budget', tag', silence, silent, seen, committed, sent⟩
  | some c =>
    by_cases carried : c.source.carried = true ∧ 1 ≤ budget
    · rw [State.beginTurn_carried tag waits carried.1 carried.2]
      exact ⟨rfl, rfl, rfl, rfl, rfl, rfl, by simp [Turn.begun, waits], Nat.le_refl 1⟩
    · rw [State.beginTurn_withdrawn tag waits carried]
      obtain ⟨a, b, c', d, e, f, g⟩ := (s.setTurn (s.turn.begun budget tag)).withdraw_turn c
      have opens := State.frameOpportunity_opens ((s.setTurn (s.turn.begun budget tag)).withdraw c)
      exact ⟨opens.state.trans a, opens.budget.trans b, opens.tag.trans c', opens.silence.trans d,
        opens.silent.trans e, opens.silenceSeen.trans f, opens.committed, g ▸ opens.sent⟩

theorem State.withdraw_queues (c : Committed) : s.Changes (s.withdraw c) [.turn, .slots] := by
  have freed : s.Changes (s.updTurn fun t => { t with withU := none }) [.turn, .slots] :=
    (s.updTurn_changes _).mono (by decide)
  unfold State.withdraw
  dsimp only
  split
  · exact freed.andThen (State.updTurn_changes _ _)
  · exact freed.andThen (State.setSlot_changes _ _ _)
  · exact freed.andThen (State.updTurn_changes _ _)
  · exact freed

theorem State.beginTurn_queues : s.Changes (s.beginTurn budget tag) [.turn, .slots] := by
  have begun (t : Turn) : s.Changes (s.setTurn t) [.turn, .slots] := (s.setTurn_changes t).mono (by decide)
  cases waits : s.turn.withU with
  | none =>
    rw [s.beginTurn_free budget tag waits]
    exact (begun _).andThen (State.frameOpportunity_changes _)
  | some c =>
    by_cases carried : c.source.carried = true ∧ 1 ≤ budget
    · rw [State.beginTurn_carried tag waits carried.1 carried.2]
      exact begun _
    · rw [State.beginTurn_withdrawn tag waits carried]
      exact (begun _).andThen (State.withdraw_queues _ c) |>.andThen (State.frameOpportunity_changes _)

end

/-! ### The end of SILENT -/

/-- The state in which a GRANT begins its turn: the silence counter is 0 and SILENT has ended (R158, R163). -/
def State.heardGrant (s : State) : State := (s.updTurn fun t => { t with silence := 0 }).endSilence

section
variable (s : State)

theorem State.heardGrant_quiet (quiet : s.turn.silent = false) :
    s.heardGrant = s.setTurn { s.turn with silence := 0 } := by
  unfold State.heardGrant State.endSilence
  exact if_neg (by simp [State.updTurn, quiet])

theorem State.heardGrant_silent (silent : s.turn.silent = true) :
    s.heardGrant =
      ((s.setTurn { s.turn with silence := 0, silent := false }).raise (.link 4 .silenceEnd)).evalCondense := by
  unfold State.heardGrant State.endSilence
  exact if_pos silent

theorem State.heardGrant_changes : s.Changes s.heardGrant ([.turn] ++ reportFields) := by
  cases silent : s.turn.silent with
  | false =>
    rw [s.heardGrant_quiet silent]
    exact (s.setTurn_changes _).mono (by decide)
  | true =>
    rw [s.heardGrant_silent silent]
    exact ((s.setTurn_changes _).mono (by decide)).andThen (State.raise_changes _ _) |>.andThen
      (State.evalCondense_changes _)

theorem State.heardGrant_turn : s.heardGrant.turn = { s.turn with silence := 0, silent := false } := by
  cases silent : s.turn.silent with
  | false =>
    rw [s.heardGrant_quiet silent, ← silent]
    rfl
  | true =>
    rw [s.heardGrant_silent silent]
    exact (State.raise_changes _ _).same .turn (by decide)

end

/-! ### GRANT -/

/-- The row of a GRANT addressed to the part (R145, R147). -/
theorem supervisorRow_grant {own : BitVec 4} {e : Envelope} (supervisor : e.srcUnit = 0) (mine : e.dstUnit = own)
    (unit : e.dstScope = .unit) (payload : List Byte) : supervisorRow own (frameOf .grant e payload) = .grant := by
  rw [supervisorRow_heard (f := frameOf .grant e payload) supervisor (.inl mine)]
  exact if_pos ⟨mine, unit⟩

theorem exec_grant_settled {s : State} (settled : s.Settled) (hears : s.hears .u = true) {e : Envelope}
    (supervisor : e.srcUnit = 0) (mine : e.dstUnit = s.unitNo) (unit : e.dstScope = .unit) (payload : List Byte) :
    exec (.grant e payload) s = .next (s.heardGrant.beginTurn (grantBudget payload) e.tag) := by
  have row := supervisorRow_grant supervisor mine unit payload
  rw [exec_grant, State.actFrame_settled settled hears row]
  exact congrArg Host.Outcome.next (State.routeFrame_u row)

/-- Settles O37: SILENT ends first, then the turn begins with the waiting frame carried or withdrawn. -/
theorem grantBeginsATurn : Obligations.GrantBeginsATurn := by
  unfold Obligations.GrantBeginsATurn
  intro s e payload settled hears supervisor mine unit budget
  have granted := exec_grant_settled settled hears supervisor mine unit payload
  have named : grantBudget payload = budget := by cases payload <;> rfl
  have turn := s.heardGrant_turn
  have waiting : s.heardGrant.turn.withU = s.turn.withU := by rw [turn]
  have replies : s.heardGrant.turn.replies = s.turn.replies := by rw [turn]
  have queue : s.heardGrant.turn.fq = s.turn.fq := by rw [turn]
  have drops : s.heardGrant.turn.forwardDrop = s.turn.forwardDrop := by rw [turn]
  have seen : (s.heardGrant.turn.begun budget e.tag).silenceSeen = s.turn.silenceSeen := by rw [turn]; rfl
  rw [granted, named]
  have opens := s.heardGrant.beginTurn_opens budget e.tag
  refine ⟨⟨_, rfl, opens.state, opens.budget, opens.silence.trans (congrArg Turn.silence turn),
    opens.silent.trans (congrArg Turn.silent turn), opens.tag, opens.committed, opens.sent,
    opens.silenceSeen.trans seen, ?_, ?_⟩, s.heardGrant, turn, s.heardGrant_changes,
    fun quiet => ?_, fun silent => ?_, ?_, ?_, ?_, ?_, ?_⟩
  · rw [← named]
    exact ((State.Keeps.refl s).takeGrant (frameOf .grant e payload)).line
  · exact s.heardGrant_changes.andThen ((State.beginTurn_queues _ budget e.tag).mono (gs := .turn :: reportFields) (by decide))
  · rw [turn, ← quiet, s.heardGrant_quiet quiet]
  · rw [s.heardGrant_silent silent]
    refine ⟨?_, State.evalCondense_condenseFollows _⟩
    have begun : s.SameReports (s.setTurn { s.turn with silence := 0, silent := false }) :=
      (s.setTurn_changes _).sameReports
    exact (begun.raise _).trans (State.evalCondense_changes _).sameReports
  · rintro (free | ⟨f, seen, release⟩)
    · rw [s.heardGrant.beginTurn_free budget e.tag (waiting.trans free)]
      rfl
    · rw [State.beginTurn_withdrawn e.tag (waiting.trans release) (by simp [TxSource.carried])]
      rfl
  · intro c waits apart some
    have carried : c.source.carried = true := by
      cases source : c.source with
      | release seen => exact absurd source (apart seen)
      | reply | slot | forward => rfl
    rw [State.beginTurn_carried e.tag (waiting.trans waits) carried some]
    cases c.source <;> rfl
  · intro f src waits none
    rw [State.beginTurn_withdrawn e.tag (waiting.trans waits) (by omega), ← replies]
    rfl
  · intro f waits none
    rw [State.beginTurn_withdrawn e.tag (waiting.trans waits) (by omega), ← queue, ← drops]
    have returned {u : Turn} (h : ({ s.heardGrant.turn.begun budget e.tag with withU := .none } : Turn).takeBack f = u) :
        ((s.heardGrant.setTurn (s.heardGrant.turn.begun budget e.tag)).withdraw
          { frame := f, source := .forward }).frameOpportunity = (s.heardGrant.setTurn u).frameOpportunity := by
      rw [← h]
      rfl
    refine ⟨fun room => congrArg Host.Outcome.next (returned (Turn.takeBack_room ?_ f)),
      fun full => congrArg Host.Outcome.next (returned (Turn.takeBack_full ?_ f))⟩
    · exact room
    · exact full
  · intro f i waits none
    rw [State.beginTurn_withdrawn e.tag (waiting.trans waits) (by omega)]
    rfl

/-! ### POLL -/

theorem exec_poll_settled {s : State} (settled : s.Settled) (hears : s.hears .u = true) {e : Envelope}
    (supervisor : e.srcUnit = 0) (mine : e.dstUnit = s.unitNo) (payload : List Byte) :
    exec (.poll e payload) s = .next (s.takePoll (frameOf .poll e payload)) := by
  have row : supervisorRow s.unitNo (frameOf .poll e payload) = .poll := by
    rw [supervisorRow_heard (f := frameOf .poll e payload) supervisor (.inl mine)]
    exact if_pos mine
  rw [exec_poll, State.actFrame_settled settled hears row]
  exact congrArg Host.Outcome.next (State.routeFrame_u row)

section
variable {s : State} {f : Frame} {i : Fin 16}

theorem State.takePoll_slot {n : Byte} {rest : List Byte} (payload : f.payload = n :: rest)
    (slot : n.toNat = i.val) : s.takePoll f = s.pollSlot f i := by
  have inside : n.toNat < 16 := slot ▸ i.isLt
  have named : (⟨n.toNat, inside⟩ : Fin 16) = i := Fin.ext slot
  unfold State.takePoll
  rw [payload]
  dsimp only
  rw [dif_pos inside, named]

theorem State.takePoll_outside (outside : f.payload = [] ∨ ∃ n rest, f.payload = n :: rest ∧ 16 ≤ n.toNat) :
    s.takePoll f = s.pollStatus f .badIndex := by
  unfold State.takePoll
  rcases outside with empty | ⟨n, rest, payload, outside⟩
  · rw [empty]
  · rw [payload]
    exact dif_neg (Nat.not_lt_of_le outside)

/-- An unsent slot defers or sends its REPORT (R115). -/
theorem State.pollSlot_unsent (unsent : (s.slot i).Unsent) : s.pollSlot f i =
    if (s.slot i).binding.inhibit then s.pollStatus f .deferred
    else (s.slotTaken i).joinReplies (s.reportFrame i f.env.tag) (.pollReport i) := by
  unfold State.pollSlot
  rcases unsent with collecting | pending
  · rw [collecting]
  · rw [pending]

end

/-- Settles O40: the payload names a slot or does not, and the slot's state answers. -/
theorem pollIsAnsweredByTheSlot : Obligations.PollIsAnsweredByTheSlot := by
  unfold Obligations.PollIsAnsweredByTheSlot
  intro s e payload settled hears supervisor mine status
  have polled := exec_poll_settled settled hears supervisor mine payload
  have answered {st : Status} (h : s.takePoll (frameOf .poll e payload) = s.pollStatus (frameOf .poll e payload) st) :
      status st.code := by
    show exec (.poll e payload) s = _
    rw [polled, h, State.pollStatus, State.joinReplies_eq]
    rfl
  refine ⟨fun empty => answered (State.takePoll_outside (.inl empty)),
    fun n rest named outside => answered (State.takePoll_outside (.inr ⟨n, rest, named, outside⟩)), ?_⟩
  intro n rest named i slot
  have taken : s.takePoll (frameOf .poll e payload) = s.pollSlot (frameOf .poll e payload) i :=
    State.takePoll_slot named slot
  refine ⟨fun nothing => answered (st := .nothing) ?_, fun sending => answered (st := .busy) ?_,
    fun unsent inhibit => answered (st := .deferred) ?_, fun unsent free => ?_⟩
  · rw [taken, State.pollSlot]
    rcases nothing with empty | idle
    · rw [empty]
    · rw [idle]
  · rw [taken, State.pollSlot, sending]
  · rw [taken, State.pollSlot_unsent unsent, if_pos inhibit]
  · rw [polled, taken, State.pollSlot_unsent unsent, if_neg (by simp [free]), State.joinReplies_eq]
    rfl

end Sys2Proof.Machine
end

section
/-! PROOFS. A frame on U: its begin, its end and the source it settles, and a collision (R112 to R114, R131, R157, R160 to
R162, R185). -/

-- The text is compiled as a whole: side by side its proofs would need more threads than there is memory for.
set_option Elab.async false

namespace Sys2Proof.Machine

/-! ### The begin of a frame -/

theorem PortRec.atBoundary_iff (r : PortRec) :
    r.atBoundary = true ↔ r.rx = .hunting ∧ r.tx = .idle ∧ r.partWay = false ∧ r.held = none := by
  simp [PortRec.atBoundary, and_assoc]

theorem State.uStarts_none {s : State} (free : s.turn.withU = none) : s.uStarts = s := by
  unfold State.uStarts
  rw [free]

theorem State.uStarts_some {s : State} {c : Committed} (waits : s.turn.withU = some c) :
    s.uStarts = if (s.port .u).atBoundary then s.setPort .u { s.port .u with tx := .sending c.frame false } else s := by
  unfold State.uStarts
  rw [waits]

/-! ### After a frame -/

section
variable {t : Turn}

theorem Turn.released_nil (none : t.replies = []) : t.released = { t with state := .listen, withU := .none } := by
  unfold Turn.released
  rw [none]

theorem Turn.released_cons {r : Reply} {rest : List Reply} (waits : t.replies = r :: rest) : t.released =
    { t with state := .replying, replies := rest
             withU := some { frame := r.frame, source := .reply r.source } } := by
  unfold Turn.released
  rw [waits]

end

/-- In LISTEN with no frame with U the next reply is committed, or LISTEN goes on (R157). -/
theorem State.commitReply_free {s : State} (listen : s.turn.state = .listen) (free : s.turn.withU = none) :
    s.commitReply.turn = s.turn.released := by
  have same : s.setTurn { s.turn with state := .listen, withU := none } = s := by
    rw [← listen, ← free]
    rfl
  rw [← same, State.commitReply_listen, same]
  rfl

section
variable (s : State) (t : Turn)

/-- With a RESTART due nothing more is committed (R185). -/
theorem State.afterSent_restart {s : State} (due : s.due.restart = true) : s.afterSent = s := if_pos due

/-- Outside a turn a frame that is gone frees U for the next reply (R157). -/
theorem State.afterSent_outside (notDue : s.due.restart = false) (outside : t.state ≠ .turn) :
    (s.setTurn { t with withU := none }).afterSent = s.setTurn t.released := by
  have freed := State.commitReply_listen (s.setTurn t)
  have stays : ¬ (s.setTurn { t with withU := none }).due.restart = true := by simp [notDue]
  unfold State.afterSent
  rw [if_neg stays]
  split
  · next turn => exact absurd turn outside
  · exact freed
  · exact freed

/-- In a turn a frame opportunity follows (R159, R160). -/
theorem State.afterSent_inTurn (notDue : s.due.restart = false) (inside : t.state = .turn) :
    (s.setTurn { t with withU := none }).afterSent = (s.setTurn { t with withU := none }).frameOpportunity := by
  have stays : ¬ (s.setTurn { t with withU := none }).due.restart = true := by simp [notDue]
  unfold State.afterSent
  rw [if_neg stays]
  split
  · rfl
  · next replying => exact absurd (inside.symm.trans replying) (by simp)
  · next listen => exact absurd (inside.symm.trans listen) (by simp)

end

section
variable {s : State} {f : Frame} {reply : Bool} {c : Committed}

/-- U's port once its frame was reported sent (R131). -/
def PortRec.uSent (r : PortRec) : PortRec :=
  { r with
    tx := .idle, rx := .hunting, partWay := false, rxTurned := false, held := none
    count := { r.count with framesSent := min (r.count.framesSent + 1) 65535 } }

/-- A frame reported sent is counted, U is released, and the source is settled (R131). -/
theorem State.uSent_eq (sending : (s.port .u).tx = .sending f reply) (committed : s.turn.withU = some c) :
    s.uSent = ((s.setPort .u (s.port .u).uSent).setTurn { s.turn with withU := none }).settleSent c.source := by
  unfold State.uSent
  rw [sending, committed]
  simp only [State.updPort, State.updTurn, PortRec.uReleased, PortRec.counted, satInc_eq]
  rfl

end

/-- Settles O38: the begin under its test, and each source's settlement with what follows it. -/
theorem uTransmitsAndSettlesItsSource : Obligations.UTransmitsAndSettlesItsSource := by
  unfold Obligations.UTransmitsAndSettlesItsSource
  intro s settled
  refine ⟨fun c waits hunting notPartWay notHeld idle => ?_, fun never => ?_, ?_⟩
  · rw [exec_uTransmitStart, State.act_settled settled, State.uStarts_some waits,
      if_pos ((PortRec.atBoundary_iff _).mpr ⟨hunting, idle, notPartWay, notHeld⟩)]
  · rw [exec_uTransmitStart, State.act_settled settled]
    cases waits : s.turn.withU with
    | none => rw [State.uStarts_none waits]
    | some c =>
      have notYet : ¬ (s.port .u).atBoundary = true := by
        rw [PortRec.atBoundary_iff]
        rintro ⟨hunting, idle, notPartWay, notHeld⟩
        simp [waits, hunting, idle, notPartWay, notHeld] at never
      rw [State.uStarts_some waits, if_neg notYet]
  intro f c sending committed u ended emptied goesOn
  have sent : exec .uFrameSent s =
      .next (((s.setPort .u u).setTurn { s.turn with withU := none }).settleSent c.source) := by
    rw [exec_uFrameSent, State.act_settled settled, State.uSent_eq sending committed]
    rfl
  have next {s1 : State} (notDue : s1.due.restart = false)
      (h : ((s.setPort .u u).setTurn { s.turn with withU := none }).settleSent c.source =
        (s1.setTurn { s.turn with withU := none }).afterSent) : goesOn s1 := by
    show (_ → exec .uFrameSent s = _) ∧ (_ → exec .uFrameSent s = _)
    rw [sent, h]
    exact ⟨fun outside => congrArg Host.Outcome.next (State.afterSent_outside s1 s.turn notDue outside),
      fun inside => congrArg Host.Outcome.next (State.afterSent_inTurn s1 s.turn notDue inside)⟩
  have settledSlot (i : Fin 16) :
      (((s.setPort .u u).setTurn { s.turn with withU := none }).slotSent i).afterSent =
        (((s.setPort .u u).setSlot i (emptied i)).setTurn { s.turn with withU := none }).afterSent := by
    simp only [State.slotSent, Slot.afterSent, satInc_eq]
    rfl
  have freed (v : State) (t : Turn) : ((v.setPort .u u).setTurn t).updPort .u
      (fun r => { r with owed := false, settingsReply := false }) = (v.setPort .u ended).setTurn t := by
    show ((v.setPort .u u).setPort .u { (v.setPort .u u).port .u with owed := false, settingsReply := false }).setTurn t
      = _
    rw [State.setPort_port, State.setPort_setPort]
  refine ⟨fun source => next settled.restart ?_, fun source => next settled.restart ?_,
    fun i source => next settled.restart ?_, fun source => next settled.restart ?_, fun seen source => ?_,
    fun source => ?_⟩
  · rw [source]
    show State.afterSent (State.updPort _ .u _) = _
    rw [freed]
  · rw [source]
    rfl
  · rcases source with source | source <;> rw [source]
    · exact settledSlot i
    · exact settledSlot i
  · rw [source]
    rfl
  · rw [sent, source]
    exact congrArg Host.Outcome.next (State.commitReply_listen
      ((s.setPort .u u).setTurn { s.turn with silenceSeen := s.turn.silenceSeen && !seen }))
  · rw [sent, source]
    show Host.Outcome.next (State.afterSent ((State.updPort _ .u _).setDue _)) = _
    rw [freed]
    exact congrArg Host.Outcome.next (State.afterSent_restart rfl)

/-! ### A collision -/

section
variable (s : State) (src : TxSource)

theorem State.settleCollision_turn : (s.settleCollision src).turn =
    { s.turn with forwardDrop :=
        if src = .forward then min (s.turn.forwardDrop + 1) 65535 else s.turn.forwardDrop } := by
  have slot (i : Fin 16) : (s.slotCollision i).turn = s.turn := (s.slotCollision_changes i).same .turn (by decide)
  cases src with
  | reply r =>
    cases r with
    | pollReport i => exact slot i
    | mgmt | restart | pollStatus => rfl
  | slot i => exact slot i
  | forward =>
    rw [if_pos rfl, ← satInc_eq]
    rfl
  | release seen => rfl

theorem State.settleCollision_port : (s.settleCollision src).port .u =
    { s.port .u with
      owed := (s.port .u).owed && !decide (src = .reply .mgmt ∨ src = .reply .restart)
      settingsReply := (s.port .u).settingsReply && !decide (src = .reply .mgmt ∨ src = .reply .restart) } := by
  have slot (i : Fin 16) : (s.slotCollision i).port .u = s.port .u := (s.slotCollision_changes i).port (by decide) .u
  have freed : (s.updPort .u fun r => { r with owed := false, settingsReply := false }).port .u =
      { s.port .u with owed := false, settingsReply := false } := State.setPort_port ..
  have keeps {lost : Bool} (kept : lost = false) : s.port .u =
      { s.port .u with
        owed := (s.port .u).owed && !lost, settingsReply := (s.port .u).settingsReply && !lost } := by simp [kept]
  have frees {lost : Bool} (gone : lost = true) : ({ s.port .u with owed := false, settingsReply := false } : PortRec) =
      { s.port .u with
        owed := (s.port .u).owed && !lost, settingsReply := (s.port .u).settingsReply && !lost } := by simp [gone]
  cases src with
  | reply r =>
    cases r with
    | pollReport i => exact (slot i).trans (keeps (by simp))
    | mgmt => exact freed.trans (frees (by simp))
    | restart => exact freed.trans (frees (by simp))
    | pollStatus => exact keeps (by simp)
  | slot i => exact (slot i).trans (keeps (by simp))
  | forward => exact keeps (by simp)
  | release seen => exact keeps (by simp)

theorem State.settleCollision_otherPorts : s.OtherPorts (s.settleCollision src) .u := by
  intro p other
  have slot (i : Fin 16) : (s.slotCollision i).port p = s.port p := (s.slotCollision_changes i).port (by decide) p
  have freed (r : PortRec) : (s.setPort .u r).port p = s.port p := s.setPort_port_ne r other
  cases src with
  | reply r =>
    cases r with
    | pollReport i => exact slot i
    | mgmt => exact freed _
    | restart => exact freed _
    | pollStatus => rfl
  | slot i => exact slot i
  | forward => rfl
  | release seen => rfl

theorem State.settleCollision_due (notDue : s.due.restart = false) : (s.settleCollision src).due =
    { s.due with restart := decide (src = .reply .restart) } := by
  have kept : s.due = { s.due with restart := false } := by rw [← notDue]
  have slot (i : Fin 16) : (s.slotCollision i).due = s.due := (s.slotCollision_changes i).same .due (by decide)
  cases src with
  | reply r =>
    cases r with
    | pollReport i => exact (slot i).trans kept
    | mgmt => exact kept
    | restart => rfl
    | pollStatus => exact kept
  | slot i => exact (slot i).trans kept
  | forward => exact kept
  | release seen => exact kept

theorem State.settleCollision_slots (apart : ∀ i, src ≠ .slot i ∧ src ≠ .reply (.pollReport i)) :
    (s.settleCollision src).slots = s.slots := by
  cases src with
  | reply r =>
    cases r with
    | pollReport i => exact absurd rfl (apart i).2
    | mgmt | restart | pollStatus => rfl
  | slot i => exact absurd rfl (apart i).1
  | forward | release => rfl

variable {src} in
theorem State.settleCollision_slot {i : Fin 16} (slot : src = .slot i ∨ src = .reply (.pollReport i)) :
    s.settleCollision src = s.slotCollision i := by
  rcases slot with rfl | rfl <;> rfl

theorem State.settleCollision_fields : s.Changes (s.settleCollision src) [.ports, .slots, .turn, .due] := by
  unfold State.settleCollision
  split
  · exact (s.slotCollision_changes _).mono (by decide)
  · exact (s.replyEnds_changes _).mono (by decide)
  · exact (s.slotCollision_changes _).mono (by decide)
  · exact (s.updTurn_changes _).mono (by decide)
  · exact .refl s _

/-- Some other slot holds an unsent entry about the subject (R107, R114). -/
theorem State.heldElsewhere_iff (i : Fin 16) (a : Event) : s.heldElsewhere i a = true ↔
    ∃ j : Fin 16, j ≠ i ∧ (s.slot j).Unsent ∧ ∃ x ∈ (s.slot j).entries, a.SameSubject x := by
  simp only [State.heldElsewhere, List.any_eq_true, Tbl.mem_indices, decide_eq_true_eq]
  refine exists_congr fun j => ?_
  rw [and_comm, ← Slot.holds_iff]
  rfl

/-- What a collision leaves of the slot whose frame it was (R113, R114). -/
theorem State.slotCollision_slot (i : Fin 16) : (s.slotCollision i).slot i =
    if (s.slot i).binding.singleShot then { s.slot i with state := .empty, entries := [], failed := true }
    else (s.slot i).afterRetry ((s.slot i).entries.filter fun e => !s.heldElsewhere i e) := by
  unfold State.slotCollision State.slotRetry
  split
  · exact State.setSlot_slot ..
  · exact State.setSlot_slot ..

theorem State.slotCollision_others (i : Fin 16) {j : Fin 16} (other : j ≠ i) :
    (s.slotCollision i).slot j = s.slot j := by
  unfold State.slotCollision State.slotRetry
  split
  · exact State.setSlot_slot_ne _ _ other
  · exact State.setSlot_slot_ne _ _ other

end

/-- A character that does not come back as it was sent fails the echo check (R131). -/
theorem State.echoFailsAt_of {s : State} {f : Frame} {reply : Bool} {pos : Nat} {sent : Byte} {back : LineChar}
    (sending : (s.port .u).tx = .sending f reply) (char : (encodeFrame f)[pos]? = some sent)
    (differs : ∀ x, readLine .u (s.port .u).inForce back = some x → x.data ≠ sent ∨ x.stopBit = false ∨
      parityError (s.port .u).inForce.parity x = true) : s.echoFailsAt pos back = true := by
  have chars : s.uSending = encodeFrame f := by
    unfold State.uSending
    rw [sending]
  unfold State.echoFailsAt
  dsimp only
  rw [chars, char]
  dsimp only
  cases read : readLine .u (s.port .u).inForce back with
  | none => rfl
  | some x => simpa [echoFails, framingError, or_assoc, or_comm, or_left_comm] using differs x read

/-- The state without the frame that a collision destroyed: U is released, and the turn or REPLYING is over (R131,
R162). -/
def State.frameLost (s : State) : State :=
  (s.setPort .u (s.port .u).uReleased).setTurn
    { s.turn with withU := none, state := .listen, collisions := min (s.turn.collisions + 1) 65535 }

/-- The state after a collision, before a waiting reply is served. -/
def State.collided (s : State) (src : TxSource) : State := s.frameLost.settleCollision src

theorem State.uCollides_eq {s : State} {c : Committed} (committed : s.turn.withU = some c) : s.uCollides =
    if (s.collided c.source).due.restart then s.collided c.source else (s.collided c.source).commitReply := by
  unfold State.uCollides
  rw [committed]
  simp only [satInc_eq]
  rfl

/-- Settles O39: the source is settled in the state without the frame, and a waiting reply follows unless a RESTART is
due. -/
theorem collisionEndsTheTurn : Obligations.CollisionEndsTheTurn := by
  unfold Obligations.CollisionEndsTheTurn
  intro s f c pos sent back settled sending committed char differs replyLost ended
  let v := s.collided c.source
  have failed := State.echoFailsAt_of sending char differs
  have collided : exec (.collision pos back) s = .next (if v.due.restart then v else v.commitReply) := by
    rw [exec_collision, State.act_settled settled, if_pos failed, State.uCollides_eq committed]
  have turn : v.turn = ended := State.settleCollision_turn s.frameLost c.source
  have due : v.due = { s.due with restart := decide (c.source = .reply .restart) } :=
    State.settleCollision_due s.frameLost c.source settled.restart
  have restart : v.due.restart = decide (c.source = .reply .restart) := by rw [due]
  have port : v.port .u = _ := State.settleCollision_port s.frameLost c.source
  have released : s.frameLost.port .u = (s.port .u).uReleased := State.setPort_port ..
  rw [released] at port
  have freed : v.commitReply.turn = ended.released := by
    rw [← turn]
    exact State.commitReply_free (by rw [turn]) (by rw [turn])
  have begun : s.Changes v [.ports, .slots, .turn, .due] :=
    ((s.setPort_changes _ _).mono (gs := [.ports, .slots, .turn, .due]) (by decide)).andThen
      ((State.setTurn_changes _ _).mono (gs := [.ports, .slots, .turn, .due]) (by decide)) |>.andThen
      (State.settleCollision_fields s.frameLost c.source)
  have others : s.OtherPorts v .u := fun p other =>
    (State.settleCollision_otherPorts s.frameLost c.source p other).trans (s.setPort_port_ne _ other)
  have after : v.Changes (if v.due.restart then v else v.commitReply) [.turn] := by
    split
    · exact .refl v _
    · exact v.commitReply_changes
  have slot (i : Fin 16) : (if v.due.restart then v else v.commitReply).slot i = v.slot i := by
    rw [State.slot, after.same .slots (by decide)]
    rfl
  refine ⟨_, collided, fun stays => ?_, fun goesOn r rest waits => ?_, ?_, fun p other => ?_, ?_, ?_, fun apart => ?_,
    fun i source => ?_⟩
  · split
    · exact turn
    · next notDue =>
      rw [restart, decide_eq_true_eq] at notDue
      rw [freed]
      exact Turn.released_nil (t := ended) (stays.resolve_left notDue)
  · rw [if_neg (by simp [restart, goesOn]), freed]
    exact Turn.released_cons (t := ended) waits
  · rw [after.port (by decide), port]
    rfl
  · rw [after.port (by decide), others p other]
  · exact begun.andThen (after.mono (gs := [.ports, .slots, .turn, .due]) (by decide))
  · rw [show (if v.due.restart then v else v.commitReply).due = v.due from after.same .due (by decide), due]
  · exact Eq.trans (after.same .slots (by decide)) (State.settleCollision_slots s.frameLost c.source apart)
  · have record : v = s.frameLost.slotCollision i := State.settleCollision_slot s.frameLost source
    refine ⟨s.heldElsewhere_iff i, fun j other => ?_, fun single => ?_, fun retry none => ?_, fun retry some => ?_⟩
    · rw [slot, record, State.slotCollision_others s.frameLost i other]
      rfl
    all_goals rw [slot, record, State.slotCollision_slot]
    · exact if_pos single
    · exact (if_neg (by simp [show s.frameLost.slot i = s.slot i from rfl, retry])).trans (if_pos none)
    · exact (if_neg (by simp [show s.frameLost.slot i = s.slot i from rfl, retry])).trans (if_neg some)

end Sys2Proof.Machine
end

section
/-! PROOFS. READ and QUERY (R174, R179, R183, 12.5). -/

-- The text is compiled as a whole: side by side its proofs would need more threads than there is memory for.
set_option Elab.async false

namespace Sys2Proof.Machine

/-! ### Served answers -/

section
variable {s : State} {p : Port} {r : MgmtOperand}

/-- A request whose take serves an answer and changes nothing is answered (R172, R177). -/
theorem exec_answered {i : Instr} {cmd table index : Byte} {a : Answer}
    (row : exec i s = .next ((s.asked p r.commission).take
      (requestRecord p r.env r.commission (requestPayload cmd table index r))))
    (served : (s.asked p r.commission).take
        (requestRecord p r.env r.commission (requestPayload cmd table index r)) =
      (s.asked p r.commission).serve (requestRecord p r.env r.commission (requestPayload cmd table index r))
        (s.asked p r.commission, a)) :
    exec i s = .next (s.answered p r cmd table index a.status.code a.index a.count a.data) := by
  rw [row, served, State.serve_answered]

/-- Every level may read (R176). -/
theorem requestRecord_reads (p : Port) (e : Envelope) (commission : Bool) (payload : List Byte) :
    ¬ readLevel < (requestRecord p e commission payload).level :=
  Nat.not_lt_of_le (requestRecord_level_le p e commission payload)

end

/-! ### QUERY -/

section
variable {s : State} {level : Nat} {a : Args} {subject : Subject} (named : Subject.ofCode a.table.toNat = some subject)
  (may : ¬ readLevel < level)
include named may

theorem State.queryAnswer_malformed (data : a.data ≠ []) : s.queryAnswer level a = a.echo .malformed := by
  unfold State.queryAnswer
  rw [named]
  exact (if_neg may).trans (if_pos data)

theorem State.queryAnswer_badIndex (data : a.data = []) (outside : s.queryRecord subject a.index = none) :
    s.queryAnswer level a = a.echo .badIndex := by
  unfold State.queryAnswer
  rw [named]
  refine (if_neg may).trans ((if_neg (by simp [data])).trans ?_)
  rw [outside]

theorem State.queryAnswer_record (data : a.data = []) {record : List Byte}
    (found : s.queryRecord subject a.index = some record) :
    s.queryAnswer level a = { status := .ok, index := a.index, count := 1, data := record } := by
  unfold State.queryAnswer
  rw [named]
  refine (if_neg may).trans ((if_neg (by simp [data])).trans ?_)
  rw [found]

end

/-! #### Lengths of records (12.5) -/

@[simp] theorem length_u16 (n : Nat) : (u16 n).length = 2 := rfl
@[simp] theorem length_u24 (n : Nat) : (u24 n).length = 3 := rfl
@[simp] theorem length_u32 (n : Nat) : (u32 n).length = 4 := rfl
@[simp] theorem length_i16 (z : Int) : (i16 z).length = 2 := rfl
@[simp] theorem length_i16? (z : Option Int) : (i16? z).length = 2 := rfl

@[simp] theorem length_refForm (r : Option ForwardRef) : (refForm r).length = 6 := by
  rcases r with _ | ⟨state, value⟩
  · rfl
  · cases value <;> rfl

@[simp] theorem length_zoneResultForm (r : ZoneResult) : (zoneResultForm r).length = 5 := by cases r <;> rfl

theorem length_sensorRecord (d : Descriptor) : (sensorRecord d).length = 28 := by simp [sensorRecord]

theorem length_surfaceRecord (r : Surface) : (surfaceRecord r).length = 9 := by simp [surfaceRecord]

theorem length_zoneRecord (r : Zone) (waiting : Bool) (epochCount : Nat) :
    (zoneRecord r waiting epochCount).length = 22 := by simp [zoneRecord]

theorem length_slotRecord (r : Slot) : (slotRecord r).length = 5 + 2 * r.entries.length := by
  simp [slotRecord, List.length_flatMap, Nat.mul_comm]
  omega

theorem length_portRecord (p : Port) (r : PortRec) : (portRecord p r).length = 34 := by
  cases p <;> simp [portRecord, lineCountersForm, routerCountersForm]

theorem State.length_unitRecord (s : State) : s.unitRecord.length = 26 := by simp [State.unitRecord]

/-! #### The rows -/

section
variable {s : State} {p : Port} {r : MgmtOperand} {i : Instr} {table : Byte}
  (row : exec i s = .next ((s.asked p r.commission).take
    (requestRecord p r.env r.commission (requestPayload 6 table r.index r))))
  {subject : Subject} (named : Subject.ofCode table.toNat = some subject)
include row named

theorem exec_query_malformed (data : r.data ≠ []) :
    exec i s = .next (s.answered p r 6 table r.index 8 r.index r.count []) :=
  exec_answered (a := (requestArgs 6 table r.index r).echo .malformed) row
    (by rw [State.take_query]
        exact congrArg (fun a => State.serve _ _ (_, a)) (State.queryAnswer_malformed named (requestRecord_reads _ _ _ _) data))

theorem exec_query_badIndex (data : r.data = []) (outside : (s.asked p r.commission).queryRecord subject r.index = none) :
    exec i s = .next (s.answered p r 6 table r.index 4 r.index r.count []) :=
  exec_answered (a := (requestArgs 6 table r.index r).echo .badIndex) row
    (by rw [State.take_query]
        exact congrArg (fun a => State.serve _ _ (_, a))
          (State.queryAnswer_badIndex named (requestRecord_reads _ _ _ _) data outside))

theorem exec_query_record (data : r.data = []) {record : List Byte}
    (found : (s.asked p r.commission).queryRecord subject r.index = some record) :
    exec i s = .next (s.answered p r 6 table r.index 0 r.index 1 record) :=
  exec_answered (a := { status := .ok, index := r.index, count := 1, data := record }) row
    (by rw [State.take_query]
        exact congrArg (fun a => State.serve _ _ (_, a))
          (State.queryAnswer_record named (requestRecord_reads _ _ _ _) data found))

end

theorem selectorNull_iff (sel : Selector) : selectorNull sel = true ↔ sel.toNat % 64 = 0 := by
  simpa using (selectorNull_eq_false_iff sel).not

/-- Settles O41: the six subjects, each with its range and its record. -/
theorem queriesReturnTheRecord : Obligations.QueriesReturnTheRecord := by
  unfold Obligations.QueriesReturnTheRecord
  intro s p r h s1 ok refused
  have sensor := exec_querySensor_admits h
  have surface := exec_querySurface_admits h
  have zone := exec_queryZone_admits h
  have slot := exec_querySlot_admits h
  have port := exec_queryPort_admits h
  have unit := exec_queryUnit_admits h
  refine ⟨fun data => ⟨fun node => ⟨?_, length_sensorRecord _⟩, fun null => ?_, fun i named => ?_, fun outside => ?_,
    fun z named => ?_, fun outside => ?_, fun i named => ?_, fun outside => ?_, fun k named => ?_, fun outside => ?_,
    exec_query_record unit rfl data rfl, s1.length_unitRecord⟩,
    fun data => ⟨exec_query_malformed sensor rfl data, exec_query_malformed surface rfl data,
      exec_query_malformed zone rfl data, exec_query_malformed slot rfl data, exec_query_malformed port rfl data,
      exec_query_malformed unit rfl data⟩⟩
  · exact exec_query_record sensor rfl data (if_neg (by rw [selectorNull_iff]; exact node))
  · exact exec_query_badIndex sensor rfl data (if_pos ((selectorNull_iff _).mpr null))
  · have inside : r.index.toNat < 64 := named ▸ i.isLt
    obtain rfl : (⟨r.index.toNat, inside⟩ : Fin 64) = i := Fin.ext named
    exact ⟨exec_query_record surface rfl data (dif_pos inside), length_surfaceRecord _⟩
  · exact exec_query_badIndex surface rfl data (dif_neg (Nat.not_lt_of_le outside))
  · have inside : r.index.toNat < 32 := named ▸ z.isLt
    obtain rfl : (⟨r.index.toNat, inside⟩ : Fin 32) = z := Fin.ext named
    exact ⟨exec_query_record zone rfl data (dif_pos inside), length_zoneRecord ..⟩
  · exact exec_query_badIndex zone rfl data (dif_neg (Nat.not_lt_of_le outside))
  · have inside : r.index.toNat < 16 := named ▸ i.isLt
    obtain rfl : (⟨r.index.toNat, inside⟩ : Fin 16) = i := Fin.ext named
    exact ⟨exec_query_record slot rfl data (dif_pos inside), length_slotRecord _⟩
  · exact exec_query_badIndex slot rfl data (dif_neg (Nat.not_lt_of_le outside))
  · have inside : r.index.toNat < 5 := named ▸ k.isLt
    obtain rfl : (⟨r.index.toNat, inside⟩ : Fin 5) = k := Fin.ext named
    exact ⟨exec_query_record port rfl data (dif_pos inside), length_portRecord ..⟩
  · exact exec_query_badIndex port rfl data (dif_neg (Nat.not_lt_of_le outside))

/-! ### READ -/

theorem Table.ofCode_eq_none {n : Nat} (unknown : n = 0 ∨ 8 < n) : Table.ofCode n = none := by
  rcases unknown with rfl | above
  · rfl
  · obtain ⟨k, rfl⟩ : ∃ k, n = k + 9 := ⟨n - 9, by omega⟩
    rfl

theorem Table.ofCode_some {n : Nat} (from1 : 1 ≤ n) (to8 : n ≤ 8) : ∃ t, Table.ofCode n = some t := by
  interval_cases n <;> exact ⟨_, rfl⟩

/-- R1, R179: an index within the table, for the descriptors one that is no null selector. -/
theorem Table.hasIndex_iff (t : Table) (i : Nat) :
    t.hasIndex i = true ↔ i < t.size ∧ ¬ (t = .sdt ∧ i % 64 = 0) := by
  cases t with
  | sdt => simp [Table.hasIndex, Table.size]
  | _ => exact decide_eq_true_iff.trans (by simp)

section
variable {s : State} {level : Nat} {a : Args}

theorem State.readAnswer_badTable (unknown : Table.ofCode a.table.toNat = none) :
    s.readAnswer level a = a.echo .badTable := by
  unfold State.readAnswer
  rw [unknown]

variable {t : Table} (named : Table.ofCode a.table.toNat = some t) (may : ¬ readLevel < level)
include named may

theorem State.readAnswer_malformed (data : a.data ≠ []) : s.readAnswer level a = a.echo .malformed := by
  unfold State.readAnswer
  rw [named]
  exact (if_neg may).trans (if_pos data)

theorem State.readAnswer_badIndex (data : a.data = []) (outside : ¬ t.hasIndex a.index.toNat = true) :
    s.readAnswer level a = a.echo .badIndex := by
  unfold State.readAnswer
  rw [named]
  exact (if_neg may).trans ((if_neg (by simp [data])).trans (if_neg outside))

theorem State.readAnswer_entries (data : a.data = []) (inside : t.hasIndex a.index.toNat = true) :
    s.readAnswer level a =
      { status := .ok, index := a.index, count := u8 (t.readCount a.index.toNat a.count.toNat)
        data := s.readEntries t a.index.toNat (t.readCount a.index.toNat a.count.toNat) } := by
  unfold State.readAnswer
  rw [named]
  exact (if_neg may).trans ((if_neg (by simp [data])).trans (if_pos inside))

end

/-- A request that has reached the engine leaves the tables (R142, R147). -/
theorem State.asked_readForm (s : State) (p : Port) (commission : Bool) (t : Table) (i : Nat) :
    (s.asked p commission).readForm t i = s.readForm t i := by cases t <;> rfl

/-- Settles O42: the checks in their order, then the clamped count. -/
theorem readReturnsClampedEntries : Obligations.ReadReturnsClampedEntries := by
  unfold Obligations.ReadReturnsClampedEntries
  intro s p code r h i refused
  have answers {a : Answer} (answer : (s.asked p r.commission).readAnswer
        (requestRecord p r.env r.commission (requestPayload 1 code r.index r)).level (requestArgs 1 code r.index r) = a) :
      exec (.read p code r) s = .next (s.answered p r 1 code r.index a.status.code a.index a.count a.data) :=
    exec_answered (exec_read_admits h) (by rw [State.take_read]; exact congrArg (fun a => State.serve _ _ (_, a)) answer)
  have may := requestRecord_reads p r.env r.commission (requestPayload 1 code r.index r)
  refine ⟨fun unknown => ?_, fun from1 to8 data => ?_, fun data t size most rest listed named => ?_⟩
  · refine answers (State.readAnswer_badTable (Table.ofCode_eq_none ?_))
    exact unknown.imp (fun zero => by rw [show (requestArgs 1 code r.index r).table = code from rfl, zero]; rfl) id
  · obtain ⟨t, named⟩ := Table.ofCode_some from1 to8
    exact answers (State.readAnswer_malformed named may data)
  · obtain ⟨bound, limit, left⟩ : t.size = size ∧ t.mostPerReply = most ∧ t.remaining i = rest := by
      simp only [List.mem_cons, Prod.mk.injEq, List.not_mem_nil, or_false] at listed
      rcases listed with ⟨rfl, rfl, rfl, rfl⟩ | ⟨rfl, rfl, rfl, rfl⟩ | ⟨rfl, rfl, rfl, rfl⟩ | ⟨rfl, rfl, rfl, rfl⟩ |
        ⟨rfl, rfl, rfl, rfl⟩ | ⟨rfl, rfl, rfl, rfl⟩ | ⟨rfl, rfl, rfl, rfl⟩ | ⟨rfl, rfl, rfl, rfl⟩ <;>
        exact ⟨rfl, rfl, rfl⟩
    refine ⟨fun outside => answers (State.readAnswer_badIndex named may data ?_), fun inside notNull => ?_⟩
    · rw [Table.hasIndex_iff, bound]
      rintro ⟨inside, notNull⟩
      exact outside.elim (Nat.not_le_of_lt inside) notNull
    · have has : t.hasIndex (requestArgs 1 code r.index r).index.toNat = true :=
        (Table.hasIndex_iff t i).mpr ⟨bound ▸ inside, notNull⟩
      rw [answers (State.readAnswer_entries named may data has)]
      have count : t.readCount i r.count.toNat = min r.count.toNat (min most rest) := by
        rw [Table.readCount, limit, left]
      have entries : (s.asked p r.commission).readEntries t i (t.readCount i r.count.toNat) =
          (List.range (min r.count.toNat (min most rest))).flatMap fun k => s.readForm t (i + k) := by
        rw [State.readEntries, count]
        simp only [State.asked_readForm]
      show Host.Outcome.next (s.answered p r 1 code r.index 0 r.index (u8 (t.readCount i r.count.toNat))
        ((s.asked p r.commission).readEntries t i (t.readCount i r.count.toNat))) = _
      rw [entries, count]
      rfl

end Sys2Proof.Machine
end

section
/-! PROOFS. Requests refused by level, count, length, index, table or form, and the CLEAR rows (R174 to R176, R180, R181,
R184). -/

-- The text is compiled as a whole: side by side its proofs would need more threads than there is memory for.
set_option Elab.async false

namespace Sys2Proof.Machine

/-! ### Levels (R175, R176) -/

/-- On U a request of RPL at most `n` has an effective level of at most `n`, but for level 0. -/
theorem requestRecord_level_u {e : Envelope} {n : Nat} (rpl : e.rpl.toNat ≤ n) (positive : 1 ≤ n) (commission : Bool)
    (payload : List Byte) : (requestRecord .u e commission payload).level ≤ n := by
  simp only [requestRecord]
  split <;> omega

/-! ### Checks of WRITE and EXCHANGE -/

section
variable {t : Table} {a : Args} (entry : t = .config → a.index.toNat ≤ 2)
include entry

theorem writeChecks_malformed (bad : a.count ≠ 1 ∨ a.data.length ≠ t.writeSize a.index.toNat) :
    writeChecks t a = some .malformed := by
  have inside : ¬ (t = .config ∧ 2 < a.index.toNat) := fun ⟨config, above⟩ => Nat.not_le_of_lt above (entry config)
  by_cases count : a.count = 1
  · unfold writeChecks
    rw [if_neg (not_not_intro count), if_neg inside, if_pos (bad.resolve_left (not_not_intro count))]
  · exact if_pos count

variable (count : a.count = 1) (length : a.data.length = t.writeSize a.index.toNat)
include count length

theorem writeChecks_badIndex (outside : ¬ t.hasIndex a.index.toNat = true) : writeChecks t a = some .badIndex := by
  have inside : ¬ (t = .config ∧ 2 < a.index.toNat) := fun ⟨config, above⟩ => Nat.not_le_of_lt above (entry config)
  unfold writeChecks
  rw [if_neg (not_not_intro count), if_neg inside, if_neg (not_not_intro length),
    if_pos (Bool.eq_false_iff.mpr outside)]

theorem writeChecks_pass (inside : t.hasIndex a.index.toNat = true) : writeChecks t a = none := by
  have row : ¬ (t = .config ∧ 2 < a.index.toNat) := fun ⟨config, above⟩ => Nat.not_le_of_lt above (entry config)
  unfold writeChecks
  rw [if_neg (not_not_intro count), if_neg row, if_neg (not_not_intro length), if_neg (by simp [inside])]

end

theorem State.exchangeAnswer_checked {s : State} {level : Nat} {a : Args} {t : Table} {st : Status}
    (ht : Table.ofCode a.table.toNat = some t) (hb : t = .sft ∨ t = .thr) (hl : level ≤ t.writeLevel)
    (hc : writeChecks t a = some st) : s.exchangeAnswer level a = (s, a.echo st) := by
  rcases hb with rfl | rfl <;> simp [State.exchangeAnswer, ht, Nat.not_lt_of_le hl, hc]

/-! ### The rows of WRITE and EXCHANGE -/

section
variable {s : State} {p : Port} {r : MgmtOperand} {i : Instr} {table k : Byte} {t : Table}
  (named : Table.ofCode table.toNat = some t)

section
variable (row : exec i s = .next ((s.asked p r.commission).take
  (requestRecord p r.env r.commission (requestPayload 2 table k r))))
include row

theorem exec_write_answered {st : Status}
    (answer : (s.asked p r.commission).writeAnswer p (requestRecord p r.env r.commission []).level
      (requestArgs 2 table k r) = (s.asked p r.commission, (requestArgs 2 table k r).echo st)) :
    exec i s = .next (s.answered p r 2 table k st.code k r.count []) :=
  exec_answered (a := (requestArgs 2 table k r).echo st) row
    (by rw [State.take_write]; exact congrArg (State.serve _ _) answer)

variable (stored : t ≠ .svtActive ∧ t ≠ .svtShadow)
include named stored

theorem exec_write_denied (weak : t.writeLevel < (requestRecord p r.env r.commission []).level) :
    exec i s = .next (s.answered p r 2 table k 2 k r.count []) :=
  exec_write_answered row (State.writeAnswer_denied named stored weak)

theorem exec_write_checked (may : (requestRecord p r.env r.commission []).level ≤ t.writeLevel) {st : Status}
    (check : writeChecks t (requestArgs 2 table k r) = some st) :
    exec i s = .next (s.answered p r 2 table k st.code k r.count []) :=
  exec_write_answered row (State.writeAnswer_checked named stored may check)

end

section
variable (row : exec i s = .next ((s.asked p r.commission).take
  (requestRecord p r.env r.commission (requestPayload 3 table k r))))
include row

theorem exec_exchange_answered {st : Status}
    (answer : (s.asked p r.commission).exchangeAnswer (requestRecord p r.env r.commission []).level
      (requestArgs 3 table k r) = (s.asked p r.commission, (requestArgs 3 table k r).echo st)) :
    exec i s = .next (s.answered p r 3 table k st.code k r.count []) :=
  exec_answered (a := (requestArgs 3 table k r).echo st) row
    (by rw [State.take_exchange]; exact congrArg (State.serve _ _) answer)

variable (exchanged : t = .sft ∨ t = .thr)
include named exchanged

theorem exec_exchange_denied (weak : t.writeLevel < (requestRecord p r.env r.commission []).level) :
    exec i s = .next (s.answered p r 3 table k 2 k r.count []) :=
  exec_exchange_answered row (State.exchangeAnswer_denied named exchanged weak)

theorem exec_exchange_checked (may : (requestRecord p r.env r.commission []).level ≤ t.writeLevel) {st : Status}
    (check : writeChecks t (requestArgs 3 table k r) = some st) :
    exec i s = .next (s.answered p r 3 table k st.code k r.count []) :=
  exec_exchange_answered row (State.exchangeAnswer_checked named exchanged may check)

end

end

/-- Settles O44: for each row the checks of its table, in their order. -/
theorem writesAreCheckedForCountLengthAndIndex : Obligations.WritesAreCheckedForCountLengthAndIndex := by
  unfold Obligations.WritesAreCheckedForCountLengthAndIndex
  intro s p r h i table level size limit listed may k refused
  have checks {cmd : Byte} {t : Table} (tells : ∀ st : Status, writeChecks t (requestArgs cmd table k r) = some st →
        exec i s = .next (s.answered p r (commandCode i) table k st.code k r.count []))
      (entry : t = .config → k.toNat ≤ 2) (length : t.writeSize k.toNat = size) (bound : t.size = limit)
      (sdt : table = 1 → t = .sdt) :
      (r.count ≠ 1 ∨ r.data.length ≠ size → refused 8) ∧
        (r.count = 1 → r.data.length = size → limit ≤ k.toNat ∨ (table = 1 ∧ k.toNat % 64 = 0) → refused 4) := by
    refine ⟨fun bad => tells .malformed (writeChecks_malformed entry (length.symm ▸ bad)), fun count fits outside =>
      tells .badIndex (writeChecks_badIndex entry count (fits.trans length.symm) ?_)⟩
    rw [Table.hasIndex_iff, bound]
    rintro ⟨inside, notNull⟩
    exact outside.elim (Nat.not_le_of_lt inside) fun ⟨first, null⟩ => notNull ⟨sdt first, null⟩
  simp only [List.mem_cons, Prod.mk.injEq, List.not_mem_nil, or_false] at listed
  rcases listed with ⟨rfl, rfl, rfl, rfl, rfl⟩ | ⟨rfl, rfl, rfl, rfl, rfl⟩ | ⟨rfl, rfl, rfl, rfl, rfl⟩ |
    ⟨rfl, rfl, rfl, rfl, rfl⟩ | ⟨rfl, rfl, rfl, rfl, rfl⟩ | ⟨rfl, rfl, rfl, rfl, rfl⟩ | ⟨rfl, rfl, rfl, rfl, rfl⟩ |
    ⟨rfl, rfl, rfl, rfl, rfl⟩ | ⟨rfl, rfl, rfl, rfl, rfl⟩ | ⟨rfl, rfl, rfl, rfl, rfl⟩
  · exact checks (t := .sdt) (fun st => exec_write_checked (t := .sdt) rfl (exec_writeSdt_admits h) (by decide) may)
      (fun config => nomatch config) rfl rfl (by decide)
  · exact checks (t := .sft) (fun st => exec_write_checked (t := .sft) rfl (exec_writeSft_admits h) (by decide) may)
      (fun config => nomatch config) rfl rfl (by decide)
  · exact checks (t := .sft) (fun st => exec_exchange_checked (t := .sft) rfl (exec_exchangeSft_admits h) (by decide) may)
      (fun config => nomatch config) rfl rfl (by decide)
  · exact checks (t := .thr) (fun st => exec_write_checked (t := .thr) rfl (exec_writeThr_admits h) (by decide) may)
      (fun config => nomatch config) rfl rfl (by decide)
  · exact checks (t := .thr) (fun st => exec_exchange_checked (t := .thr) rfl (exec_exchangeThr_admits h) (by decide) may)
      (fun config => nomatch config) rfl rfl (by decide)
  · exact checks (t := .zone) (fun st => exec_write_checked (t := .zone) rfl (exec_writeZone_admits h) (by decide) may)
      (fun config => nomatch config) rfl rfl (by decide)
  · exact checks (t := .slot) (fun st => exec_write_checked (t := .slot) rfl (exec_writeSlot_admits h) (by decide) may)
      (fun config => nomatch config) rfl rfl (by decide)
  · exact checks (t := .config) (fun st => exec_write_checked (t := .config) rfl (exec_writeEpochLength_admits h) (by decide) may)
      (fun _ => Nat.le_of_ble_eq_true rfl) rfl rfl (by decide)
  · exact checks (t := .config) (fun st => exec_write_checked (t := .config) rfl (exec_writeSilenceLimit_admits h) (by decide) may)
      (fun _ => Nat.le_of_ble_eq_true rfl) rfl rfl (by decide)
  · exact checks (t := .config) (fun st => exec_write_checked (t := .config) rfl (exec_writeLineSettings_admits h) (by decide) may)
      (fun _ => Nat.le_of_ble_eq_true rfl) rfl rfl (by decide)

/-! ### CLEAR -/

section
variable {s : State} {p : Port} {r : MgmtOperand} {i : Instr} {table : Byte}
  (row : exec i s = .next ((s.asked p r.commission).take
    (requestRecord p r.env r.commission (requestPayload 7 table r.index r))))
  {target : Target} (named : Target.ofCode table.toNat = some target)
include row named

theorem exec_clear_denied (weak : target.level < (requestRecord p r.env r.commission []).level) :
    exec i s = .next (s.answered p r 7 table r.index 2 r.index r.count []) :=
  exec_answered (a := (requestArgs 7 table r.index r).echo .denied) row
    (by rw [State.take_clear]; exact congrArg (State.serve _ _) (State.clearAnswer_denied named weak))

variable (may : (requestRecord p r.env r.commission []).level ≤ target.level)
include may

theorem exec_clear_malformed (data : r.data ≠ []) :
    exec i s = .next (s.answered p r 7 table r.index 8 r.index r.count []) := by
  have refused : (s.asked p r.commission).clearAnswer (requestRecord p r.env r.commission []).level
      (requestArgs 7 table r.index r) = (s.asked p r.commission, (requestArgs 7 table r.index r).echo .malformed) := by
    unfold State.clearAnswer
    rw [show Target.ofCode (requestArgs 7 table r.index r).table.toNat = some target from named]
    exact (if_neg (Nat.not_lt_of_le may)).trans (if_pos data)
  exact exec_answered (a := (requestArgs 7 table r.index r).echo .malformed) row
    (by rw [State.take_clear]; exact congrArg (State.serve _ _) refused)

theorem exec_clear_ok (data : r.data = []) :
    exec i s = .next (((s.asked p r.commission).clear target).setMgmt
      (.serving (requestRecord p r.env r.commission (requestPayload 7 table r.index r))
        (replyTo s.unitNo p r.env 7 0 r.index r.count []))) := by
  have cleared : (s.asked p r.commission).clearAnswer (requestRecord p r.env r.commission []).level
      (requestArgs 7 table r.index r) =
        ((s.asked p r.commission).clear target, (requestArgs 7 table r.index r).echo .ok) :=
    State.clearAnswer_ok named may data
  rw [row, State.take_clear]
  exact congrArg Host.Outcome.next ((congrArg (State.serve _ _) cleared).trans (State.serve_changed ..))

end

section
variable (s : State)

theorem State.zeroCounters_changes : s.Changes s.zeroCounters [.sdt, .counters, .ports, .slots, .turn] := by
  intro f apart
  cases f
  case sdt | counters | ports | slots | turn => exact absurd (by decide) apart
  all_goals rfl

theorem State.clearAlarm_fields : s.Changes s.clearAlarm [.alarmLoss, .condense] :=
  ((s.setAlarmLoss_changes false).mono (by decide)).andThen (State.evalCondense_changes _)

end

/-- Settles O43: each target is a map over its table. -/
theorem clearsActOnEveryInstance : Obligations.ClearsActOnEveryInstance := by
  unfold Obligations.ClearsActOnEveryInstance
  intro s r h rpl s1 ok refused
  have counters := exec_clearCounters_admits h
  have accessed := exec_clearAccessed_admits h
  have slotFlags := exec_clearSlotFlags_admits h
  have surfaceCounts := exec_clearSurfaceCounts_admits h
  have zoneFlags := exec_clearZoneFlags_admits h
  have alarm := exec_clearAlarm_admits h
  have may : (requestRecord .u r.env r.commission []).level ≤ 2 := requestRecord_level_u rpl (by decide) _ _
  have mayAlarm (rpl : r.env.rpl.toNat ≤ 1) : (requestRecord .u r.env r.commission []).level ≤ 1 :=
    requestRecord_level_u rpl (by decide) _ _
  have served {t : State} {fs : List Field} (kept : s1.Changes t fs) (e : Engine) :
      s1.Changes (t.setMgmt e) (fs ++ [.mgmt]) :=
    (kept.mono fun _ => List.mem_append_left _).andThen (t.setMgmt_changes e) (by simp)
  refine ⟨fun data => ⟨exec_clear_malformed counters rfl may data, exec_clear_malformed accessed rfl may data,
    exec_clear_malformed slotFlags rfl may data, exec_clear_malformed surfaceCounts rfl may data,
    exec_clear_malformed zoneFlags rfl may data, fun rpl => exec_clear_malformed alarm rfl (mayAlarm rpl) data⟩,
    fun data => ⟨?_, ?_, ?_, ?_, ?_, fun rpl => ?_⟩⟩
  · exact ⟨_, exec_clear_ok counters rfl may data, rfl, fun sel => Tbl.get_map _ _ _, rfl, fun p => Tbl.get_map _ _ _,
      fun i => Tbl.get_map _ _ _, rfl, served s1.zeroCounters_changes _⟩
  · exact ⟨_, exec_clear_ok accessed rfl may data, rfl, fun sel => Tbl.get_map _ _ _,
      served (s1.setSdt_changes _) _⟩
  · exact ⟨_, exec_clear_ok slotFlags rfl may data, rfl, fun i => Tbl.get_map _ _ _, served (s1.setSlots_changes _) _⟩
  · exact ⟨_, exec_clear_ok surfaceCounts rfl may data, rfl, fun i => Tbl.get_map _ _ _,
      served (s1.setSurfaces_changes _) _⟩
  · exact ⟨_, exec_clear_ok zoneFlags rfl may data, rfl, fun z => Tbl.get_map _ _ _, served (s1.setZones_changes _) _⟩
  · exact ⟨_, exec_clear_ok alarm rfl (mayAlarm rpl) data, rfl, rfl,
      (s1.setAlarmLoss false).evalCondense_condenseFollows, served s1.clearAlarm_fields _⟩

/-! ### Levels too weak (R176) -/

theorem State.beginCommit_refused {s : State} {q : Request} {a : Args} {st : Status}
    (refused : s.commitRefusal q.level a = some st) : s.beginCommit q a = s.serve q (s, a.echo st) := by
  unfold State.beginCommit
  rw [refused]

theorem State.beginRestart_refused {s : State} {q : Request} {a : Args} {st : Status}
    (refused : restartRefusal q.level a = some st) : s.beginRestart q a = s.serve q (s, a.echo st) := by
  unfold State.beginRestart
  rw [refused]

section
variable {s : State} {p : Port} {r : MgmtOperand} {table : Byte}
  (weak : commandLevel < (requestRecord p r.env r.commission []).level) (h : s.Admits p r.env)
include weak h

theorem exec_svtLoad_denied :
    exec (.svtLoad p table r) s = .next (s.answered p r 4 table r.index 2 r.index r.count []) :=
  exec_answered (a := (requestArgs 4 table r.index r).echo .denied) (exec_svtLoad_admits h)
    (by rw [State.take_svtLoad]; exact congrArg (State.serve _ _) (if_pos weak))

theorem exec_svtCommit_denied :
    exec (.svtCommit p table r) s = .next (s.answered p r 5 table r.index 2 r.index r.count []) := by
  have refused : (s.asked p r.commission).commitRefusal (requestRecord p r.env r.commission []).level
      (requestArgs 5 table r.index r) = some .denied := if_pos weak
  refine exec_answered (a := (requestArgs 5 table r.index r).echo .denied) (exec_svtCommit_admits h) ?_
  rw [State.take_svtCommit]
  exact State.beginCommit_refused refused

theorem exec_restart_denied :
    exec (.restart p table r) s = .next (s.answered p r 8 table r.index 2 r.index r.count []) := by
  have refused : restartRefusal (requestRecord p r.env r.commission []).level
      (requestArgs 8 table r.index r) = some .denied := if_pos weak
  refine exec_answered (a := (requestArgs 8 table r.index r).echo .denied) (exec_restart_admits h) ?_
  rw [State.take_restart]
  exact State.beginRestart_refused refused

end

/-! ### Requests of no other row (R174, R177; log 15) -/

theorem Command.ofCode_eq_none {n : Nat} (unknown : n = 0 ∨ 8 < n) : Command.ofCode n = none := by
  rcases unknown with rfl | above
  · rfl
  · obtain ⟨k, rfl⟩ : ∃ k, n = k + 9 := ⟨n - 9, by omega⟩
    rfl

theorem Subject.ofCode_eq_none {n : Nat} (unknown : n = 0 ∨ 6 < n) : Subject.ofCode n = none := by
  rcases unknown with rfl | above
  · rfl
  · obtain ⟨k, rfl⟩ : ∃ k, n = k + 7 := ⟨n - 7, by omega⟩
    rfl

theorem Target.ofCode_eq_none {n : Nat} (unknown : n = 0 ∨ 6 < n) : Target.ofCode n = none := by
  rcases unknown with rfl | above
  · rfl
  · obtain ⟨k, rfl⟩ : ∃ k, n = k + 7 := ⟨n - 7, by omega⟩
    rfl

/-- A byte that is 0 or above a bound, as a number. -/
theorem toNat_of_unknown {b : Byte} {n : Nat} (unknown : b = 0 ∨ n < b.toNat) : b.toNat = 0 ∨ n < b.toNat :=
  unknown.imp (fun zero => by rw [zero]; rfl) id

section
variable {s : State} {level : Nat} {a : Args}

theorem State.writeAnswer_badTable (p : Port) (unknown : Table.ofCode a.table.toNat = none) :
    s.writeAnswer p level a = (s, a.echo .badTable) := by
  unfold State.writeAnswer
  rw [unknown]

theorem State.writeAnswer_illegalForm (p : Port) {t : Table} (named : Table.ofCode a.table.toNat = some t)
    (bank : t = .svtActive ∨ t = .svtShadow) : s.writeAnswer p level a = (s, a.echo .illegalForm) := by
  unfold State.writeAnswer
  rw [named]
  exact if_pos bank

theorem State.exchangeAnswer_badTable (unknown : Table.ofCode a.table.toNat = none) :
    s.exchangeAnswer level a = (s, a.echo .badTable) := by
  unfold State.exchangeAnswer
  rw [unknown]

theorem State.exchangeAnswer_illegalForm {t : Table} (named : Table.ofCode a.table.toNat = some t)
    (other : t ≠ .sft ∧ t ≠ .thr) : s.exchangeAnswer level a = (s, a.echo .illegalForm) := by
  unfold State.exchangeAnswer
  rw [named]
  exact if_pos other

theorem State.queryAnswer_badTable (unknown : Subject.ofCode a.table.toNat = none) :
    s.queryAnswer level a = a.echo .badTable := by
  unfold State.queryAnswer
  rw [unknown]

theorem State.clearAnswer_badTable (unknown : Target.ofCode a.table.toNat = none) :
    s.clearAnswer level a = (s, a.echo .badTable) := by
  unfold State.clearAnswer
  rw [unknown]

theorem State.take_short {q : Request} (short : q.payload.length < 4) :
    s.take q = s.serve q (s, echoPayload q.payload .malformed) := by
  have unread : readArgs q.payload = none := by
    match q.payload, short with
    | [], _ | [_], _ | [_, _], _ | [_, _, _], _ => rfl
  unfold State.take
  rw [unread]

theorem State.take_unknown {q : Request} (args : readArgs q.payload = some a)
    (unknown : Command.ofCode a.cmd.toNat = none) : s.take q = s.serve q (s, a.echo .malformed) := by
  unfold State.take
  rw [args]
  dsimp only
  rw [unknown]

end

section
variable {s : State} {p : Port} {e : Envelope} {commission : Bool} {payload : List Byte} (h : s.Admits p e)
  (other : OtherRequest payload)
include h other

/-- MALFORMED_REQUEST with an answer that echoes what the payload holds and changes nothing (R177). -/
theorem exec_malformedRequest_answered {st : Status}
    (served : (s.asked p commission).take (requestRecord p e commission payload) =
      (s.asked p commission).serve (requestRecord p e commission payload)
        (s.asked p commission, echoPayload payload st)) :
    exec (.malformedRequest p e commission payload) s =
      .next ((s.asked p commission).setMgmt (.serving (requestRecord p e commission payload)
        (replyTo s.unitNo p e (payload.getD 0 0) st.code (payload.getD 2 0) (payload.getD 3 0) []))) := by
  rw [exec_malformedRequest_admits h ((requestRow_malformed_iff payload).mpr other), served, State.serve,
    State.replyFrame_echo]
  rfl

end

/-- Settles O51: too short a payload, or four fixed bytes of which the command, then the table, then the form is not
there. -/
theorem malformedRequestsAreAnsweredByStatus : Obligations.MalformedRequestsAreAnsweredByStatus := by
  unfold Obligations.MalformedRequestsAreAnsweredByStatus
  intro s p e commission payload h cmd table tells
  refine ⟨fun short => exec_malformedRequest_answered (st := .malformed) h (.inl short) (State.take_short short), ?_⟩
  intro long
  obtain ⟨c, t, index, count, data, rfl⟩ : ∃ c t index count data, payload = c :: t :: index :: count :: data := by
    match payload, long with
    | c :: t :: index :: count :: data, _ => exact ⟨c, t, index, count, data, rfl⟩
  let r : MgmtOperand := { env := e, commission := commission, index := index, count := count, data := data }
  have write {t : Byte} {st : Status} (other : OtherRequest (2 :: t :: index :: count :: data))
      (answer : (s.asked p commission).writeAnswer p (requestRecord p e commission []).level (requestArgs 2 t index r) =
        (s.asked p commission, (requestArgs 2 t index r).echo st)) :=
    exec_malformedRequest_answered (st := st) h other
      ((State.take_write (s.asked p commission) p t index r).trans (congrArg (State.serve _ _) answer))
  have exchange {t : Byte} {st : Status} (other : t ≠ 4 ∧ t ≠ 5)
      (answer : (s.asked p commission).exchangeAnswer (requestRecord p e commission []).level
        (requestArgs 3 t index r) = (s.asked p commission, (requestArgs 3 t index r).echo st)) :=
    exec_malformedRequest_answered (st := st) (payload := 3 :: t :: index :: count :: data) h
      (.inr (.inr (.inr (.inr (.inl ⟨rfl, other⟩)))))
      ((State.take_exchange (s.asked p commission) p t index r).trans (congrArg (State.serve _ _) answer))
  refine ⟨fun unknown => ?_, fun writes unknown => ?_, fun asks unknown => ?_, fun writes bank => ?_,
    fun exchanges form => ?_, fun writes config above => ?_⟩
  · exact exec_malformedRequest_answered (st := .malformed) h
      (.inr (unknown.imp id .inl))
      (State.take_unknown (a := { cmd := c, table := t, index := index, count := count, data := data }) rfl
        (Command.ofCode_eq_none (toNat_of_unknown unknown)))
  · have none := Table.ofCode_eq_none (toNat_of_unknown unknown)
    rcases writes with two | three
    · obtain rfl : c = 2 := two
      exact write (.inr (.inr (.inr (.inl ⟨rfl, unknown.imp id fun above => .inr (.inr (.inl above))⟩))))
        (State.writeAnswer_badTable p none)
    · obtain rfl : c = 3 := three
      refine exchange ⟨?_, ?_⟩ (State.exchangeAnswer_badTable none)
      · rintro rfl
        exact absurd unknown (by decide : ¬ ((4 : Byte) = 0 ∨ 8 < (4 : Byte).toNat))
      · rintro rfl
        exact absurd unknown (by decide : ¬ ((5 : Byte) = 0 ∨ 8 < (5 : Byte).toNat))
  · have other : OtherRequest (c :: t :: index :: count :: data) := .inr (.inr (.inr (.inr (.inr ⟨asks, unknown⟩))))
    have code := toNat_of_unknown unknown
    rcases asks with six | seven
    · obtain rfl : c = 6 := six
      exact exec_malformedRequest_answered (st := .badTable) h other
        ((State.take_query (s.asked p commission) p t index r).trans
          (congrArg (fun a => State.serve _ _ (_, a)) (State.queryAnswer_badTable (Subject.ofCode_eq_none code))))
    · obtain rfl : c = 7 := seven
      exact exec_malformedRequest_answered (st := .badTable) h other
        ((State.take_clear (s.asked p commission) p t index r).trans
          (congrArg (State.serve _ _) (State.clearAnswer_badTable (Target.ofCode_eq_none code))))
  · obtain rfl : c = 2 := writes
    rcases bank with two | three
    · obtain rfl : t = 2 := two
      exact write (.inr (.inr (.inr (.inl ⟨rfl, .inr (.inl rfl)⟩))))
        (State.writeAnswer_illegalForm p (t := .svtActive) rfl (.inl rfl))
    · obtain rfl : t = 3 := three
      exact write (.inr (.inr (.inr (.inl ⟨rfl, .inr (.inr (.inl rfl))⟩))))
        (State.writeAnswer_illegalForm p (t := .svtShadow) rfl (.inr rfl))
  · obtain rfl : c = 3 := exchanges
    have noForm {t' : Table} (named : Table.ofCode t.toNat = some t') (other : t' ≠ .sft ∧ t' ≠ .thr)
        (apart : t ≠ 4 ∧ t ≠ 5) := exchange apart (State.exchangeAnswer_illegalForm named other)
    have code {n : Byte} (named : table = n) : t = n := named
    rcases form with one | two | three | six | seven | eight
    · exact noForm (t' := .sdt) (code one ▸ rfl) (by decide) (code one ▸ by decide)
    · exact noForm (t' := .svtActive) (code two ▸ rfl) (by decide) (code two ▸ by decide)
    · exact noForm (t' := .svtShadow) (code three ▸ rfl) (by decide) (code three ▸ by decide)
    · exact noForm (t' := .zone) (code six ▸ rfl) (by decide) (code six ▸ by decide)
    · exact noForm (t' := .slot) (code seven ▸ rfl) (by decide) (code seven ▸ by decide)
    · exact noForm (t' := .config) (code eight ▸ rfl) (by decide) (code eight ▸ by decide)
  · obtain rfl : c = 2 := writes
    obtain rfl : t = 8 := config
    have other : OtherRequest (2 :: 8 :: index :: count :: data) :=
      .inr (.inr (.inr (.inl ⟨rfl, .inr (.inr (.inr (.inr ⟨rfl, above⟩)))⟩)))
    refine ⟨fun weak => write other (State.writeAnswer_denied (t := .config) rfl (by decide) weak),
      fun strong bad => write other
        (State.writeAnswer_checked (t := .config) rfl (by decide) (Nat.le_of_eq strong) (if_pos bad)),
      fun strong one => write (st := .badIndex) other
        (State.writeAnswer_checked (t := .config) rfl (by decide) (Nat.le_of_eq strong) ?_)⟩
    exact (if_neg (not_not_intro one)).trans (if_pos ⟨rfl, above⟩)

/-- Settles O52: the level is checked before anything that the payload says beyond command and table. -/
theorem tooWeakRequestsAreDenied : Obligations.TooWeakRequestsAreDenied := by
  unfold Obligations.TooWeakRequestsAreDenied
  intro s p table r h level denied
  refine ⟨fun weak => ?_, fun weak => ?_, fun weak => ?_⟩
  · refine ⟨exec_write_denied (t := .sdt) rfl (exec_writeSdt_admits h) (by decide) weak,
      exec_write_denied (t := .config) rfl (exec_writeEpochLength_admits h) (by decide) weak,
      exec_write_denied (t := .config) rfl (exec_writeSilenceLimit_admits h) (by decide) weak,
      exec_write_denied (t := .config) rfl (exec_writeLineSettings_admits h) (by decide) weak,
      exec_svtLoad_denied weak h, exec_svtCommit_denied weak h, exec_restart_denied weak h, fun above => ?_⟩
    have other : OtherRequest (requestPayload 2 8 r.index r) :=
      .inr (.inr (.inr (.inl ⟨rfl, .inr (.inr (.inr (.inr ⟨rfl, above⟩)))⟩)))
    exact exec_write_denied (t := .config) rfl
      (exec_malformedRequest_admits h ((requestRow_malformed_iff _).mpr other)) (by decide) weak
  · exact ⟨exec_write_denied (t := .sft) rfl (exec_writeSft_admits h) (by decide) weak,
      exec_exchange_denied (t := .sft) rfl (exec_exchangeSft_admits h) (by decide) weak,
      exec_write_denied (t := .thr) rfl (exec_writeThr_admits h) (by decide) weak,
      exec_exchange_denied (t := .thr) rfl (exec_exchangeThr_admits h) (by decide) weak,
      exec_write_denied (t := .zone) rfl (exec_writeZone_admits h) (by decide) weak,
      exec_write_denied (t := .slot) rfl (exec_writeSlot_admits h) (by decide) weak,
      exec_clear_denied (target := .alarm) (exec_clearAlarm_admits h) rfl weak⟩
  · exact ⟨exec_clear_denied (target := .counters) (exec_clearCounters_admits h) rfl weak,
      exec_clear_denied (target := .accessed) (exec_clearAccessed_admits h) rfl weak,
      exec_clear_denied (target := .slotFlags) (exec_clearSlotFlags_admits h) rfl weak,
      exec_clear_denied (target := .surfaceCounts) (exec_clearSurfaceCounts_admits h) rfl weak,
      exec_clear_denied (target := .zoneFlags) (exec_clearZoneFlags_admits h) rfl weak⟩

end Sys2Proof.Machine
end

section
/-! PROOFS. WRITE and EXCHANGE of a descriptor and of a surface record (R4, R5, R18, R44, R72, R80 to R82, R96, R97). -/

-- The text is compiled as a whole: side by side its proofs would need more threads than there is memory for.
set_option Elab.async false

namespace Sys2Proof.Machine

/-! ### Accepted and refused entries -/

section
variable {s u : State} {p : Port} {r : MgmtOperand} {i : Instr} {table k : Byte} {t : Table}
  (named : Table.ofCode table.toNat = some t) (may : r.MayChange p t.writeLevel)

section
variable (row : exec i s = .next ((s.asked p r.commission).take
    (requestRecord p r.env r.commission (requestPayload 2 table k r))))
  (stored : t ≠ .svtActive ∧ t ≠ .svtShadow) (check : writeChecks t (requestArgs 2 table k r) = none)
include named may row stored check

theorem exec_write_refused {st : Status} (refused : (s.asked p r.commission).writeEntry t p k r.data = .error st) :
    exec i s = .next (s.answered p r 2 table k st.code k r.count []) :=
  exec_write_answered row (State.writeAnswer_refused named stored (requestRecord_level_may may _) check refused)

/-- An accepted WRITE serves its OK reply (R172, R180). -/
theorem exec_write_ok (count : r.count = 1) (ok : (s.asked p r.commission).writeEntry t p k r.data = .ok u) :
    ∃ e, exec i s = .next (u.setMgmt e) ∧ s.ServesOk (u.setMgmt e) p r 2 table k [] := by
  have answer := State.writeAnswer_ok named stored (requestRecord_level_may may (requestPayload 2 table k r)) check ok
  refine ⟨_, row.trans ?_, rfl⟩
  rw [State.take_write, ← count]
  exact congrArg Host.Outcome.next ((congrArg (State.serve _ _) answer).trans (State.serve_changed ..))

end

section
variable (row : exec i s = .next ((s.asked p r.commission).take
    (requestRecord p r.env r.commission (requestPayload 3 table k r))))
  (exchanged : t = .sft ∨ t = .thr) (check : writeChecks t (requestArgs 3 table k r) = none)
include named may row exchanged check

theorem exec_exchange_refused {st : Status} (refused : (s.asked p r.commission).exchangeEntry t k r.data = .error st) :
    exec i s = .next (s.answered p r 3 table k st.code k r.count []) :=
  exec_exchange_answered row
    (State.exchangeAnswer_refused named exchanged (requestRecord_level_may may _) check refused)

/-- An accepted EXCHANGE serves its OK reply with what was there before (R172, R181). -/
theorem exec_exchange_ok {data : List Byte} (count : r.count = 1)
    (ok : (s.asked p r.commission).exchangeEntry t k r.data = .ok (u, data)) :
    ∃ e, exec i s = .next (u.setMgmt e) ∧ s.ServesOk (u.setMgmt e) p r 3 table k data := by
  have answer :=
    State.exchangeAnswer_ok named exchanged (requestRecord_level_may may (requestPayload 3 table k r)) check ok
  refine ⟨_, row.trans ?_, rfl⟩
  rw [State.take_exchange, ← count]
  exact congrArg Host.Outcome.next ((congrArg (State.serve _ _) answer).trans (State.serve_changed ..))

end

end

/-! ### Descriptors -/

/-- The descriptor written and its waiting job purged, before the notice (R5, R44). -/
def State.writtenDesc (s : State) (sel : Selector) (c : Option SensorConfig) : State :=
  (s.setDesc sel ((s.desc sel).written c)).setEvalQueue (s.evalQueue.filter fun q => decide (q.sel ≠ sel))

section
variable {s : State} {sel : Selector} (c : Option SensorConfig)

theorem State.storeDesc_vacant (vacant : (s.desc sel).config = none) : s.storeDesc sel c = s.writtenDesc sel c := by
  unfold State.storeDesc
  dsimp only
  rw [vacant]
  rfl

theorem State.storeDesc_present {old : SensorConfig} (present : (s.desc sel).config = some old) :
    s.storeDesc sel c = (s.writtenDesc sel c).probeNotice old.kind sel := by
  unfold State.storeDesc
  dsimp only
  rw [present]
  rfl

variable (s sel) in
theorem State.storeDesc_grades : (s.writtenDesc sel c).Grades (s.storeDesc sel c) := by
  cases config : (s.desc sel).config with
  | none =>
    rw [State.storeDesc_vacant c config]
    exact .refl _
  | some old =>
    rw [State.storeDesc_present c config]
    exact State.probeNotice_grades _ old.kind sel

end

/-- Settles O45: the descriptor and the queue first, then the notice of the kind that was there. -/
theorem writeSdtRestartsTheDescriptor : Obligations.WriteSdtRestartsTheDescriptor := by
  unfold Obligations.WriteSdtRestartsTheDescriptor
  intro s p r h may count length node d
  let s1 := s.asked p r.commission
  have check : writeChecks .sdt (requestArgs 2 1 r.index r) = none :=
    writeChecks_pass (fun config => nomatch config) count length
      ((Table.hasIndex_iff _ _).mpr ⟨r.index.isLt, fun ⟨_, null⟩ => node null⟩)
  have row := exec_writeSdt_admits h
  refine ⟨fun unread => ?_, fun c read => ?_⟩
  · refine exec_write_refused (t := .sdt) (st := .badValue) rfl may row (by decide) check ?_
    simp only [State.writeEntry, State.writeDesc, unread]
  have ok : s1.writeEntry .sdt p r.index r.data = .ok (s1.storeDesc r.index c) := by
    simp only [State.writeEntry, State.writeDesc, read]
  obtain ⟨e, stepped, serves⟩ := exec_write_ok (t := .sdt) rfl may row (by decide) check count ok
  let v := s1.writtenDesc r.index c
  let t := s1.storeDesc r.index c
  have graded : v.Grades t := s1.storeDesc_grades r.index c
  have written : s1.Changes v [.sdt, .evalQueue] :=
    ((s1.setDesc_changes _ _).mono (by decide)).andThen (State.setEvalQueue_changes _ _)
  have descs : t.sdt = v.sdt := graded.changes.same .sdt (by decide)
  refine ⟨t.setMgmt e, stepped, serves, fun sel other => ?_, ?_, graded.changes.same .evalQueue (by decide), ?_,
    graded.zones, fun vacant => ?_, fun old present => ?_, ?_⟩
  · exact (congrArg (fun x => x.get sel.toFin) descs).trans (s1.setDesc_desc_ne _ other)
  · exact (congrArg (fun x => x.get r.index.toFin) descs).trans (s1.setDesc_desc r.index _)
  · exact ((written.mono (gs := [.sdt, .evalQueue, .surfaces, .zones, .mgmt] ++ reportFields) (by decide)).andThen
      (graded.changes.mono (gs := [.sdt, .evalQueue, .surfaces, .zones, .mgmt] ++ reportFields) (by decide))).andThen
      (t.setMgmt_changes e)
  · show t.surfaces = s.surfaces
    rw [show t = v from State.storeDesc_vacant c vacant]
    rfl
  · have noticed : v.Noticed t old.kind r.index := by
      rw [show t = v.probeNotice old.kind r.index from State.storeDesc_present c present]
      exact v.probeNotice_noticed old.kind r.index
    exact noticed.of_surfaces rfl
  · have before : s.SameReports v := ⟨rfl, rfl, rfl⟩
    exact (before.raiseAll _).trans graded.reports

/-! ### Surface records -/

section
variable (s : State) (i : Fin 64) (r : Surface)

theorem Surface.recounted_eq (left : Grade) : r.recounted left =
    { r with changes := if r.grade = left then r.changes else min (r.changes + 1) 65535 } := by
  unfold Surface.recounted satInc
  by_cases same : r.grade = left
  · subst same
    simp
  · simp [same]

/-- The record an accepted WRITE or EXCHANGE leaves, with its grade change counted if it is in use (R81, R82, R96). -/
def Surface.stored (old r : Surface) : Surface := if r.config.isSome then r.recounted old.gradeBefore else r

/-- Storing a record tells its GRADE event; the encodings and the line follow it (R72, R96, R97, R189). -/
theorem State.storeSurface_regrades : s.Regrades (s.storeSurface i r) i ((s.surface i).stored r) := by
  have first : s.Regrades (if r.config.isSome then s.regrade i (s.surface i).gradeBefore r else s.setSurface i r) i
      ((s.surface i).stored r) := by
    unfold Surface.stored
    cases used : r.config with
    | none =>
      have quiet : gradeEventOf i (s.surface i) r = none := by
        unfold gradeEventOf
        rw [used]
      simp only [Option.isSome_none, Bool.false_eq_true, if_false]
      exact ⟨s.setSurface_surface i r, s.setSurface_otherSurfaces i r, .of_zones rfl,
        by rw [quiet]; exact (s.setSurface_changes i r).sameReports, (s.setSurface_changes i r).mono (by decide)⟩
    | some c =>
      simp only [Option.isSome_some, if_true]
      exact s.regrade_regrades i used
  have encode (v : State) (a b : Option SurfaceConfig) :
      v.Changes ((v.reencodeOf a).reencodeOf b).evalCondense [.zones, .condense] :=
    ((State.reencodeOf_changes v a).mono (gs := [.zones, .condense]) (by decide)).andThen
      ((State.reencodeOf_changes _ b).mono (gs := [.zones, .condense]) (by decide)) |>.andThen
      (State.evalCondense_changes _)
  have after := encode (if r.config.isSome then s.regrade i (s.surface i).gradeBefore r else s.setSurface i r)
    (s.surface i).config r.config
  refine ⟨after.surfaceAt i |>.trans first.surface, fun j other => (after.surfaceAt j).trans (first.others j other), ?_,
    first.reports.trans after.sameReports, first.changes.andThen after⟩
  exact (first.zones.trans (State.reencodeOf_zonesKept _ _)).trans (State.reencodeOf_zonesKept _ _) |>.trans
    (.of_zones rfl)

end

theorem Surface.stored_unused (old : Surface) {r : Surface} (unused : r.config = none) : old.stored r = r := by
  simp [Surface.stored, unused]

/-- A record in use counts a change from the grade held before, BLIND if it was not in use (R81, R82, R96). -/
theorem Surface.stored_used (old : Surface) {r : Surface} {c : SurfaceConfig} (used : r.config = some c) :
    old.stored r =
      { r with
        changes := if r.grade = (if old.config = none then Grade.blind else old.grade) then r.changes
          else min (r.changes + 1) 65535 } := by
  have held : old.gradeBefore = if old.config = none then Grade.blind else old.grade := by
    cases config : old.config <;> simp [Surface.gradeBefore, config]
  have inUse : r.config.isSome = true := by simp [used]
  rw [Surface.stored, if_pos inUse, Surface.recounted_eq, held]

section
variable (s : State) (i : Fin 64)

theorem State.writtenSurface_some (c : SurfaceConfig) : s.writtenSurface i (some c) =
    { config := some c, grade := if s.padInForce c.wetness then .wet else .blind, confirmed := s.padInForce c.wetness
      source := none, margin := none, dwell := 0, changes := (s.surface i).changes
      version := (s.surface i).version + 1 } := by
  unfold State.writtenSurface
  dsimp only
  cases s.padInForce c.wetness <;> rfl

variable {i} in
theorem State.exchangedSurface_kept {c old : SurfaceConfig} (used : (s.surface i).config = some old)
    (same : old.wetness = c.wetness) : s.exchangedSurface i (some c) =
      { s.surface i with config := some c, version := (s.surface i).version + 1 } := by
  unfold State.exchangedSurface
  simp [used, same]

variable {i} in
/-- Under another pad, or in a record that was not in use, CONFIRMED follows the pad (R82). -/
theorem State.exchangedSurface_moved {c : SurfaceConfig}
    (moved : (s.surface i).config = none ∨ ∃ old, (s.surface i).config = some old ∧ old.wetness ≠ c.wetness) :
    s.exchangedSurface i (some c) =
      { s.surface i with
        config := some c, version := (s.surface i).version + 1, confirmed := s.padInForce c.wetness
        grade := if s.padInForce c.wetness then .wet else (s.surface i).grade
        dwell := if s.padInForce c.wetness then 0 else (s.surface i).dwell } := by
  unfold State.exchangedSurface
  rcases moved with unused | ⟨old, used, other⟩
  · simp [unused]
  · simp [used, other]

/-- R80: the checks of an entry against the descriptors and the other records. -/
theorem State.sftAdmits_iff (c : SurfaceConfig) : s.sftAdmits i c = true ↔
    (∃ k, (s.desc c.probe).config = some k ∧ k.kind = .surface) ∧
      (∀ (j : Fin 64) (k : SurfaceConfig), (s.surface j).config = some k → k.probe = c.probe → j = i) ∧
      ∀ w, c.wetness = some w → ∃ k, (s.desc w).config = some k ∧ k.kind = .wetness := by
  have present (sel : Selector) (kind : SensorKind) :
      s.presentAs sel kind = true ↔ ∃ k, (s.desc sel).config = some k ∧ k.kind = kind := by
    simp [State.presentAs, Option.any_eq_true]
  have probes : ((s.probeSurfaces c.probe).all fun j => decide (j = i)) = true ↔
      ∀ (j : Fin 64) (k : SurfaceConfig), (s.surface j).config = some k → k.probe = c.probe → j = i := by
    simp only [State.probeSurfaces, List.all_eq_true, Tbl.mem_indices, decide_eq_true_eq]
    refine forall_congr' fun j => ?_
    show (_ → _) ↔ ∀ k, (s.surfaces.get j).config = some k → _
    cases (s.surfaces.get j).config <;> simp
  simp only [State.sftAdmits, Bool.and_eq_true, present, probes, and_assoc]
  refine and_congr_right fun _ => and_congr_right fun _ => ?_
  cases c.wetness with
  | none => simp
  | some w => simp [present]

end

section
variable {s : State} {i : Fin 64} {data : List Byte}

theorem State.checkSft_refused
    (refused : readSftEntry data = none ∨ ∃ c, readSftEntry data = some (some c) ∧ ¬ s.sftAdmits i c = true) :
    s.checkSft i data = none := by
  unfold State.checkSft
  rcases refused with unread | ⟨c, read, notAdmitted⟩
  · rw [unread]
  · rw [read]
    exact if_neg notAdmitted

theorem State.checkSft_unused (read : readSftEntry data = some none) : s.checkSft i data = some none := by
  unfold State.checkSft
  rw [read]

theorem State.checkSft_used {c : SurfaceConfig} (read : readSftEntry data = some (some c))
    (admitted : s.sftAdmits i c = true) : s.checkSft i data = some (some c) := by
  unfold State.checkSft
  rw [read]
  exact if_pos admitted

end

theorem length_sftWriteForm (c : Option SurfaceConfig) : (sftWriteForm c).length = 10 := by
  cases c with
  | none => rfl
  | some c => simp [sftWriteForm]

theorem length_exchangeSnapshot (r : Surface) : (exchangeSnapshot r).length = 18 := by
  simp [exchangeSnapshot, length_sftWriteForm]

/-- What the storing of a record leaves around it, told to a state with the same tables and reports. -/
def State.Framed (s s1 t : State) (i : Fin 64) : Prop :=
  s.OtherSurfaces t i ∧ s.ZonesKept t ∧ (s.raiseAll (s.gradeEvents t)).SameReports t ∧
    s1.Changes t ([.surfaces, .zones, .mgmt] ++ reportFields)

section
variable {s : State} {p : Port} {r : MgmtOperand} {i : Fin 64} (h : s.Admits p r.env) (may : r.MayChange p 1)
  (count : r.count = 1) (length : r.data.length = 10) (index : r.index.toNat = i.val)

theorem State.storeSurface_framed (s : State) (p : Port) (commission : Bool) (i : Fin 64) (new : Surface) (e : Engine) :
    (((s.asked p commission).storeSurface i new).setMgmt e).surface i = (s.surface i).stored new ∧
      s.Framed (s.asked p commission) (((s.asked p commission).storeSurface i new).setMgmt e) i := by
  have stored := (s.asked p commission).storeSurface_regrades i new
  have graded := stored.grades
  have before : s.SameReports (s.asked p commission) := ⟨rfl, rfl, rfl⟩
  refine ⟨stored.surface, stored.others, stored.zones, (before.raiseAll _).trans graded.reports, ?_⟩
  exact (stored.changes.mono (gs := [.surfaces, .zones, .mgmt] ++ reportFields) (by decide)).andThen
    (State.setMgmt_changes _ e)

include count length index in
theorem writeChecks_sft (cmd : Byte) : writeChecks .sft (requestArgs cmd 4 r.index r) = none :=
  writeChecks_pass (fun config => nomatch config) count length
    ((Table.hasIndex_iff _ _).mpr ⟨(index ▸ i.isLt : r.index.toNat < 64), fun ⟨sdt, _⟩ => nomatch sdt⟩)

include index in
theorem State.writeEntry_sft (u : State) (p : Port) (data : List Byte) :
    u.writeEntry .sft p r.index data = u.writeSurface i data := by
  have inside : r.index.toNat < 64 := index ▸ i.isLt
  rw [State.writeEntry, dif_pos inside, show (⟨r.index.toNat, inside⟩ : Fin 64) = i from Fin.ext index]

include index in
theorem State.exchangeEntry_sft (u : State) (data : List Byte) :
    u.exchangeEntry .sft r.index data =
      (u.exchangeSurface i data).map fun v => (v, exchangeSnapshot (u.surface i)) := by
  have inside : r.index.toNat < 64 := index ▸ i.isLt
  rw [State.exchangeEntry, dif_pos inside, show (⟨r.index.toNat, inside⟩ : Fin 64) = i from Fin.ext index]

include h may count length index

theorem exec_writeSft_stores {c : Option SurfaceConfig} (check : (s.asked p r.commission).checkSft i r.data = some c) :
    ∃ t, exec (.writeSft p r) s = .next t ∧ s.ServesOk t p r 2 4 r.index [] ∧
      t.surface i = (s.surface i).stored (s.writtenSurface i c) ∧ s.Framed (s.asked p r.commission) t i := by
  have ok : (s.asked p r.commission).writeEntry .sft p r.index r.data =
      .ok ((s.asked p r.commission).storeSurface i ((s.asked p r.commission).writtenSurface i c)) := by
    rw [State.writeEntry_sft index, State.writeSurface, check]
  obtain ⟨e, stepped, serves⟩ := exec_write_ok (t := .sft) rfl may (exec_writeSft_admits h) (by decide)
    (writeChecks_sft count length index 2) count ok
  obtain ⟨surface, framed⟩ := s.storeSurface_framed p r.commission i ((s.asked p r.commission).writtenSurface i c) e
  exact ⟨_, stepped, serves, surface, framed⟩

theorem exec_exchangeSft_stores {c : Option SurfaceConfig} (check : (s.asked p r.commission).checkSft i r.data = some c) :
    ∃ t, exec (.exchangeSft p r) s = .next t ∧ s.ServesOk t p r 3 4 r.index (exchangeSnapshot (s.surface i)) ∧
      t.surface i = (s.surface i).stored (s.exchangedSurface i c) ∧ s.Framed (s.asked p r.commission) t i := by
  have ok : (s.asked p r.commission).exchangeEntry .sft r.index r.data =
      .ok ((s.asked p r.commission).storeSurface i ((s.asked p r.commission).exchangedSurface i c),
        exchangeSnapshot (s.surface i)) := by
    rw [State.exchangeEntry_sft index, State.exchangeSurface, check]
    rfl
  obtain ⟨e, stepped, serves⟩ := exec_exchange_ok (t := .sft) rfl may (exec_exchangeSft_admits h) (by decide)
    (writeChecks_sft count length index 3) count ok
  obtain ⟨surface, framed⟩ := s.storeSurface_framed p r.commission i ((s.asked p r.commission).exchangedSurface i c) e
  exact ⟨_, stepped, serves, surface, framed⟩

theorem exec_sft_refused (check : (s.asked p r.commission).checkSft i r.data = none) :
    exec (.writeSft p r) s = .next (s.answered p r 2 4 r.index 5 r.index r.count []) ∧
      exec (.exchangeSft p r) s = .next (s.answered p r 3 4 r.index 5 r.index r.count []) := by
  refine ⟨exec_write_refused (t := .sft) (st := .badValue) rfl may (exec_writeSft_admits h) (by decide)
    (writeChecks_sft count length index 2) ?_, exec_exchange_refused (t := .sft) (st := .badValue) rfl may
    (exec_exchangeSft_admits h) (by decide) (writeChecks_sft count length index 3) ?_⟩
  · rw [State.writeEntry_sft index, State.writeSurface, check]
  · rw [State.exchangeEntry_sft index, State.exchangeSurface, check]
    rfl

end

/-- Settles O46: the checks decide, the record of each form is written out, and its storing tells what changed. -/
theorem surfaceWriteRestartsAndExchangeKeeps : Obligations.SurfaceWriteRestartsAndExchangeKeeps := by
  unfold Obligations.SurfaceWriteRestartsAndExchangeKeeps
  intro s p r i h may count length index old held counted inForce admitted outOfUse framed
  have admits (c : SurfaceConfig) : (s.asked p r.commission).sftAdmits i c = true ↔ admitted c :=
    (s.asked p r.commission).sftAdmits_iff i c
  have force (c : SurfaceConfig) : s.padInForce c.wetness = true ↔ inForce c := by
    rw [State.padInForce_iff]
    exact ⟨fun ⟨w, named, k, water⟩ => ⟨w, k, named, water⟩, fun ⟨w, k, named, water⟩ => ⟨w, named, k, water⟩⟩
  refine ⟨fun refused => ?_, fun read => ?_, fun c read admitted => ⟨?_, ?_⟩⟩
  · refine exec_sft_refused h may count length index (State.checkSft_refused (refused.imp id ?_))
    exact fun ⟨c, read, bad⟩ => ⟨c, read, fun good => bad ((admits c).mp good)⟩
  · have check : (s.asked p r.commission).checkSft i r.data = some none := State.checkSft_unused read
    obtain ⟨t, stepped, serves, surface, frame⟩ := exec_writeSft_stores h may count length index check
    obtain ⟨t', stepped', serves', surface', frame'⟩ := exec_exchangeSft_stores h may count length index check
    exact ⟨⟨t, stepped, serves, surface.trans (Surface.stored_unused _ rfl), frame⟩,
      t', stepped', serves', surface'.trans (Surface.stored_unused _ rfl), frame'⟩
  · have check := State.checkSft_used read ((admits c).mpr admitted)
    obtain ⟨t, stepped, serves, surface, frame⟩ := exec_writeSft_stores h may count length index check
    rw [State.writtenSurface_some, Surface.stored_used _ rfl] at surface
    refine ⟨t, stepped, serves, fun on => ?_, fun off => ?_, ?_, frame⟩
    · simp [surface, (force c).mpr on]
    · simp [surface, Bool.eq_false_iff.mpr ((force c).not.mpr off)]
    · rw [surface]
  · have check := State.checkSft_used read ((admits c).mpr admitted)
    obtain ⟨t, stepped, serves, surface, frame⟩ := exec_exchangeSft_stores h may count length index check
    rw [Surface.stored_used _ (State.exchangedSurface_config s i (some c))] at surface
    refine ⟨t, stepped, serves, length_exchangeSnapshot _, fun oc used same => ?_, fun moved => ?_, ?_⟩
    · rw [State.exchangedSurface_kept s used same] at surface
      rw [surface]
      exact ⟨rfl, rfl, rfl⟩
    · rw [State.exchangedSurface_moved s moved] at surface
      refine ⟨fun on => ?_, fun off => ?_⟩
      · simp [surface, (force c).mpr on]
      · simp [surface, Bool.eq_false_iff.mpr ((force c).not.mpr off), old]
    · rw [surface]
      exact ⟨State.exchangedSurface_config s i (some c), rfl, rfl, rfl, rfl, frame⟩

end Sys2Proof.Machine
end

section
/-! PROOFS. WRITE and EXCHANGE of a threshold set, a zone configuration, a slot binding and the CONFIG entries (R62, R65,
R79, R109, R134, R163, R187). -/

-- The text is compiled as a whole: side by side its proofs would need more threads than there is memory for.
set_option Elab.async false

namespace Sys2Proof.Machine

/-! ### Threshold sets -/

/-- The checks of a threshold set are the sixth law (R79). -/
theorem ThrSet.valid_iff (t : ThrSet) : t.valid = true ↔ t.Ordered := by
  simp only [ThrSet.valid, inRange, ThrSet.Ordered, Bool.and_eq_true, decide_eq_true_eq]
  omega

section
variable {s : State} {i : Fin 8} {data : List Byte}

theorem State.writeThrSet_refused (unread : readThrEntry data = none) : s.writeThrSet i data = .error .badValue := by
  unfold State.writeThrSet
  rw [unread]

theorem State.writeThrSet_ok {t : ThrSet} (read : readThrEntry data = some t) :
    s.writeThrSet i data = .ok (s.setThr (s.thr.set i t)) := by
  unfold State.writeThrSet
  rw [read]

end

/-- Settles O47: the set is read whole, and stored whole or not at all. -/
theorem thresholdWriteIsCheckedWhole : Obligations.ThresholdWriteIsCheckedWhole := by
  unfold Obligations.ThresholdWriteIsCheckedWhole
  intro s p r i b0 b1 b2 b3 b4 b5 b6 b7 h may count index data t
  let s1 := s.asked p r.commission
  have inside : r.index.toNat < 8 := index ▸ i.isLt
  have entry : (⟨r.index.toNat, inside⟩ : Fin 8) = i := Fin.ext index
  have check (cmd : Byte) : writeChecks .thr (requestArgs cmd 5 r.index r) = none :=
    writeChecks_pass (fun config => nomatch config) count
      (show r.data.length = 8 by rw [data]; rfl) ((Table.hasIndex_iff _ _).mpr ⟨inside, fun ⟨sdt, _⟩ => nomatch sdt⟩)
  have wrote : s1.writeEntry .thr p r.index r.data = s1.writeThrSet i r.data := by
    rw [State.writeEntry, dif_pos inside, entry]
  have exchanged : s1.exchangeEntry .thr r.index r.data =
      (s1.writeThrSet i r.data).map fun v => (v, thrWriteForm (s.thr.get i)) := by
    rw [State.exchangeEntry, dif_pos inside, entry]
    rfl
  have read : readThrEntry r.data = if t.valid then some t else none := by
    rw [data]
    rfl
  refine ⟨fun bad => ?_, fun ordered => ?_⟩
  · have refused : s1.writeThrSet i r.data = .error .badValue :=
      State.writeThrSet_refused (read.trans (if_neg (by rw [ThrSet.valid_iff]; exact bad)))
    exact ⟨exec_write_refused (t := .thr) (st := .badValue) rfl may (exec_writeThr_admits h) (by decide) (check 2)
        (wrote.trans refused),
      exec_exchange_refused (t := .thr) (st := .badValue) rfl may (exec_exchangeThr_admits h) (by decide) (check 3)
        (exchanged.trans (by rw [refused]; rfl))⟩
  · have ok : s1.writeThrSet i r.data = .ok (s1.setThr (s1.thr.set i t)) :=
      State.writeThrSet_ok (read.trans (if_pos ((ThrSet.valid_iff t).mpr ordered)))
    have stored (e : Engine) : (∀ j : Fin 8, ((s1.setThr (s1.thr.set i t)).setMgmt e).thr.get j =
        if j = i then t else s.thr.get j) ∧ s1.Changes ((s1.setThr (s1.thr.set i t)).setMgmt e) [.thr, .mgmt] := by
      refine ⟨fun j => ?_, ((s1.setThr_changes _).mono (by decide)).andThen (State.setMgmt_changes _ e)⟩
      show (s.thr.set i t).get j = _
      rw [Tbl.get_set]
      simp only [eq_comm]
    obtain ⟨e, stepped, serves⟩ := exec_write_ok (t := .thr) rfl may (exec_writeThr_admits h) (by decide) (check 2)
      count (wrote.trans ok)
    obtain ⟨e', stepped', serves'⟩ := exec_exchange_ok (t := .thr) (data := thrWriteForm (s.thr.get i)) rfl may
      (exec_exchangeThr_admits h) (by decide) (check 3) count (exchanged.trans (by rw [ok]; rfl))
    exact ⟨⟨_, stepped, serves, stored e⟩, _, stepped', serves', stored e'⟩

/-! ### Bits of an entry's bytes -/

theorem extractLsb'_ne_zero (b : Byte) {start len : Nat} :
    b.extractLsb' start len ≠ 0 ↔ b.toNat / 2 ^ start % 2 ^ len ≠ 0 := by
  rw [Ne, ← BitVec.toNat_inj, BitVec.extractLsb'_toNat, Nat.shiftRight_eq_div_pow]
  rfl

theorem setWidth_eq_extractLsb' (b : Byte) (len : Nat) : b.setWidth len = b.extractLsb' 0 len := by
  rw [← BitVec.toNat_inj, BitVec.extractLsb'_toNat, BitVec.toNat_setWidth, Nat.shiftRight_zero]

theorem readZoneEntry_eq (b : Byte) :
    readZoneEntry [b] = if 4 ≤ b.toNat then none else some (b.getLsbD 0, b.getLsbD 1) := by
  have reserved : b.extractLsb' 2 6 ≠ 0 ↔ 4 ≤ b.toNat := by
    rw [extractLsb'_ne_zero]
    omega
  simp only [readZoneEntry, reserved]

/-- A slot binding is read where no reserved bit is set, the mode code names a mode and the mask covers the match
(R109, R194). -/
theorem readSlotEntry_eq (k m n b : Byte) :
    readSlotEntry [k, m, n, b] =
      if 32 ≤ k.toNat ∨ m &&& ~~~n ≠ 0 ∨ 2 ≤ b.toNat % 64 then none
      else some
        { kinds := k.setWidth 5, idMatch := m, idMask := n, mode := if b.toNat % 64 = 0 then .single else .batch
          singleShot := b.getLsbD 6, inhibit := b.getLsbD 7 } := by
  have high : k.extractLsb' 5 3 ≠ 0 ↔ 32 ≤ k.toNat := by
    rw [extractLsb'_ne_zero]
    omega
  have middle : b.extractLsb' 2 4 ≠ 0 ↔ 4 ≤ b.toNat % 64 := by
    rw [extractLsb'_ne_zero]
    omega
  have low : (b.extractLsb' 0 2).toNat = b.toNat % 4 := BitVec.extractLsb'_toNat ..
  simp only [readSlotEntry, high, middle, low, setWidth_eq_extractLsb']
  by_cases bad : 32 ≤ k.toNat ∨ 4 ≤ b.toNat % 64 ∨ m &&& ~~~n ≠ 0
  · rw [if_pos bad, if_pos (bad.imp id (Or.elim · (fun above => .inr (by omega)) .inl))]
  · rw [if_neg bad]
    by_cases mode : 2 ≤ b.toNat % 64
    · obtain code | code : b.toNat % 4 = 2 ∨ b.toNat % 4 = 3 := by omega
      · rw [code, if_pos (.inr (.inr mode))]
        rfl
      · rw [code, if_pos (.inr (.inr mode))]
        rfl
    · rw [if_neg fun worse => bad (worse.imp id (Or.elim · .inr fun above => absurd above mode))]
      obtain ⟨zero, code⟩ | ⟨one, code⟩ : b.toNat % 64 = 0 ∧ b.toNat % 4 = 0 ∨ b.toNat % 64 = 1 ∧ b.toNat % 4 = 1 := by
        omega
      · rw [code, if_pos zero]
        rfl
      · rw [code, if_neg (by omega)]
        rfl

section
variable {s : State} {data : List Byte}

theorem State.writeZoneConfig_refused {z : Fin 32} (unread : readZoneEntry data = none) :
    s.writeZoneConfig z data = .error .badValue := by
  unfold State.writeZoneConfig
  rw [unread]

theorem State.writeZoneConfig_ok {z : Fin 32} {summary fallback : Bool}
    (read : readZoneEntry data = some (summary, fallback)) :
    s.writeZoneConfig z data = .ok (s.setZone z { s.zone z with summary := summary, fallback := fallback }) := by
  unfold State.writeZoneConfig
  rw [read]
  rfl

variable {i : Fin 16}

theorem State.writeSlotBinding_busy (notIdle : (s.slot i).state ≠ .idle) (notEmpty : (s.slot i).state ≠ .empty) :
    s.writeSlotBinding i data = .error .busy := if_neg (not_or.mpr ⟨notIdle, notEmpty⟩)

variable (free : (s.slot i).state = .idle ∨ (s.slot i).state = .empty)
include free

theorem State.writeSlotBinding_refused (unread : readSlotEntry data = none) :
    s.writeSlotBinding i data = .error .badValue := by
  unfold State.writeSlotBinding
  rw [if_pos free, unread]

theorem State.writeSlotBinding_ok {b : SlotBinding} (read : readSlotEntry data = some b) :
    s.writeSlotBinding i data = .ok (s.setSlot i ((s.slot i).rebound b)) := by
  unfold State.writeSlotBinding
  rw [if_pos free, read]

end

/-- Settles O48: what the entry's bytes say, and the one record it is stored in. -/
theorem zoneAndSlotWritesSetTheirEntry : Obligations.ZoneAndSlotWritesSetTheirEntry := by
  unfold Obligations.ZoneAndSlotWritesSetTheirEntry
  intro s p r h may count
  let s1 := s.asked p r.commission
  refine ⟨fun z b index data => ?_, fun i k m n b index data => ?_⟩
  · have inside : r.index.toNat < 32 := index ▸ z.isLt
    have check : writeChecks .zone (requestArgs 2 6 r.index r) = none :=
      writeChecks_pass (fun config => nomatch config) count
        (show r.data.length = 1 by rw [data]; rfl) ((Table.hasIndex_iff _ _).mpr ⟨inside, fun ⟨sdt, _⟩ => nomatch sdt⟩)
    have wrote : s1.writeEntry .zone p r.index r.data = s1.writeZoneConfig z r.data := by
      rw [State.writeEntry, dif_pos inside, show (⟨r.index.toNat, inside⟩ : Fin 32) = z from Fin.ext index]
    have read := readZoneEntry_eq b
    rw [← data] at read
    refine ⟨fun reserved => ?_, fun fits => ?_⟩
    · exact exec_write_refused (t := .zone) (st := .badValue) rfl may (exec_writeZone_admits h) (by decide) check
        (wrote.trans (State.writeZoneConfig_refused (read.trans (if_pos reserved))))
    · obtain ⟨e, stepped, serves⟩ := exec_write_ok (t := .zone) rfl may (exec_writeZone_admits h) (by decide) check count
        (wrote.trans (State.writeZoneConfig_ok (read.trans (if_neg (Nat.not_le_of_lt fits)))))
      exact ⟨_, stepped, serves, s1.setZone_zone z _, fun y other => s1.setZone_zone_ne _ other,
        ((s1.setZone_changes z _).mono (by decide)).andThen (State.setMgmt_changes _ e)⟩
  · have inside : r.index.toNat < 16 := index ▸ i.isLt
    have check : writeChecks .slot (requestArgs 2 7 r.index r) = none :=
      writeChecks_pass (fun config => nomatch config) count
        (show r.data.length = 4 by rw [data]; rfl) ((Table.hasIndex_iff _ _).mpr ⟨inside, fun ⟨sdt, _⟩ => nomatch sdt⟩)
    have wrote : s1.writeEntry .slot p r.index r.data = s1.writeSlotBinding i r.data := by
      rw [State.writeEntry, dif_pos inside, show (⟨r.index.toNat, inside⟩ : Fin 16) = i from Fin.ext index]
    have read := readSlotEntry_eq k m n b
    rw [← data] at read
    refine ⟨fun notIdle notEmpty => ?_, fun free => ⟨fun bad => ?_, fun kinds mask mode => ?_⟩⟩
    · exact exec_write_refused (t := .slot) (st := .busy) rfl may (exec_writeSlot_admits h) (by decide) check
        (wrote.trans (State.writeSlotBinding_busy notIdle notEmpty))
    · exact exec_write_refused (t := .slot) (st := .badValue) rfl may (exec_writeSlot_admits h) (by decide) check
        (wrote.trans (State.writeSlotBinding_refused free (read.trans (if_pos bad))))
    · have good : ¬ (32 ≤ k.toNat ∨ m &&& ~~~n ≠ 0 ∨ 2 ≤ b.toNat % 64) := by
        rintro (above | uncovered | noMode)
        · exact Nat.not_le_of_lt kinds above
        · exact uncovered mask
        · exact Nat.not_le_of_lt mode noMode
      obtain ⟨e, stepped, serves⟩ := exec_write_ok (t := .slot) rfl may (exec_writeSlot_admits h) (by decide) check count
        (wrote.trans (State.writeSlotBinding_ok (s := s1) free (read.trans (if_neg good))))
      have zero : k.setWidth 5 = 0 ↔ k = 0 := by
        rw [← BitVec.toNat_inj, ← BitVec.toNat_inj, BitVec.toNat_setWidth]
        show k.toNat % 32 = 0 ↔ k.toNat = 0
        omega
      refine ⟨_, stepped, serves, fun j other => s1.setSlot_slot_ne _ other,
        ((s1.setSlot_changes i _).mono (by decide)).andThen (State.setMgmt_changes _ e), fun none => ?_, fun some => ?_⟩
      · exact (s1.setSlot_slot i _).trans (if_pos (zero.mpr none))
      · exact (s1.setSlot_slot i _).trans (if_neg (zero.not.mpr some))

/-! ### CONFIG -/

section
variable {s : State} (a b : Byte)

theorem State.writeEpoch_eq : s.writeEpoch [a, b] =
    if 10 ≤ nat16 a b ∧ nat16 a b ≤ 600 then
      .ok ((s.setConfig { s.config with epochLength := nat16 a b }).setEpochCount 0)
    else .error .badValue := rfl

theorem State.writeSilence_eq : s.writeSilence [a] =
    if 2 ≤ a.toNat ∧ a.toNat ≤ 60 then .ok (s.setConfig { s.config with silenceLimit := a.toNat })
    else .error .badValue := rfl

end

/-- Every port among some takes its part of the settings once (R134). -/
theorem State.foldl_giveSettings (t : Tbl 5 Settings) (arrival : Port) (l : List (Fin 5)) (s : State) (nodup : l.Nodup)
    (i : Fin 5) : (l.foldl (fun s i => s.giveSettings t arrival i) s).ports.get i =
      if i ∈ l then (s.ports.get i).writeSettings (t.get i) (decide (arrival = .u) && decide (i = 4))
      else s.ports.get i := by
  induction l generalizing s with
  | nil => simp
  | cons j l ih =>
    obtain ⟨out, nodup⟩ := List.nodup_cons.mp nodup
    rw [List.foldl_cons, ih _ nodup]
    by_cases same : i = j
    · subst same
      simp [out, State.giveSettings]
    · simp [State.giveSettings, Tbl.get_set_ne _ _ (Ne.symm same), same]

section
variable {s : State} {arrival : Port} {data : List Byte}

theorem State.writeLines_refused (unread : readLinesEntry data = none) :
    s.writeLines arrival data = .error .badValue := by
  unfold State.writeLines
  rw [unread]

theorem State.writeLines_ok {l : Tbl 5 Settings} (read : readLinesEntry data = some l) :
    ∃ t, s.writeLines arrival data = .ok t ∧ s.Changes t [.config, .ports] ∧
      t.config = { s.config with lines := l } ∧
      ∀ x : Port, t.port x =
        (s.port x).writeSettings (l.get (portIdx x)) (decide (arrival = .u) && decide (portIdx x = 4)) := by
  have wrote : s.writeLines arrival data = .ok ((List.finRange 5).foldl (fun s i => s.giveSettings l arrival i)
      (s.setConfig { s.config with lines := l })) := by
    unfold State.writeLines
    rw [read]
  refine ⟨_, wrote, State.writeLines_changes wrote, ?_, fun x => ?_⟩
  · exact (State.Changes.foldl (fun t _ => t.setPorts_changes _) (List.finRange 5)
      (s.setConfig { s.config with lines := l })).same .config (by decide)
  · rw [State.port, State.foldl_giveSettings _ _ _ _ (List.nodup_finRange 5), if_pos (List.mem_finRange _)]
    rfl

end

/-- Settles O49: each entry's range, and what its value touches. -/
theorem configWritesTakeTheirEffects : Obligations.ConfigWritesTakeTheirEffects := by
  unfold Obligations.ConfigWritesTakeTheirEffects
  intro s p r h may count
  let s1 := s.asked p r.commission
  have check {k : Byte} (inside : k.toNat < 3) (length : r.data.length = Table.config.writeSize k.toNat) :
      writeChecks .config (requestArgs 2 8 k r) = none :=
    writeChecks_pass (fun _ => Nat.le_of_lt_succ inside) count length
      ((Table.hasIndex_iff _ _).mpr ⟨inside, fun ⟨sdt, _⟩ => nomatch sdt⟩)
  refine ⟨?_, ?_, ?_⟩
  · intro a b data v
    have passes := check (k := 0) (by decide) (by rw [data]; rfl)
    have wrote : s1.writeEntry .config p 0 r.data = s1.writeEpoch [a, b] := by
      rw [data]
      rfl
    have row := exec_writeEpochLength_admits h
    refine ⟨fun outside => ?_, fun low high => ?_⟩
    · exact exec_write_refused (t := .config) (st := .badValue) rfl may row (by decide) passes
        (wrote.trans (if_neg fun ⟨low, high⟩ => outside.elim (Nat.not_lt_of_le low) (Nat.not_lt_of_le high)))
    · obtain ⟨e, stepped, serves⟩ := exec_write_ok (t := .config) rfl may row (by decide) passes count
        (wrote.trans (if_pos ⟨low, high⟩))
      exact ⟨_, stepped, serves, rfl, rfl, ((s1.setConfig_changes _).mono (gs := [.config, .epochCount, .mgmt])
        (by decide)).andThen (State.setEpochCount_changes _ 0) |>.andThen (State.setMgmt_changes _ e)⟩
  · intro a data
    have passes := check (k := 1) (by decide) (by rw [data]; rfl)
    have wrote : s1.writeEntry .config p 1 r.data = s1.writeSilence [a] := by
      rw [data]
      rfl
    have row := exec_writeSilenceLimit_admits h
    refine ⟨fun outside => ?_, fun low high => ?_⟩
    · exact exec_write_refused (t := .config) (st := .badValue) rfl may row (by decide) passes
        (wrote.trans (if_neg fun ⟨low, high⟩ => outside.elim (Nat.not_lt_of_le low) (Nat.not_lt_of_le high)))
    · obtain ⟨e, stepped, serves⟩ := exec_write_ok (t := .config) rfl may row (by decide) passes count
        (wrote.trans (if_pos ⟨low, high⟩))
      exact ⟨_, stepped, serves, rfl, ((s1.setConfig_changes _).mono (gs := [.config, .mgmt]) (by decide)).andThen
        (State.setMgmt_changes _ e)⟩
  · intro length
    have passes := check (k := 2) (by decide) length
    have row := exec_writeLineSettings_admits h
    refine ⟨fun unread => ?_, fun l read => ?_⟩
    · exact exec_write_refused (t := .config) (st := .badValue) rfl may row (by decide) passes
        (State.writeLines_refused unread)
    · obtain ⟨t, wrote, changes, config, ports⟩ := State.writeLines_ok (s := s1) (arrival := p) read
      obtain ⟨e, stepped, serves⟩ := exec_write_ok (t := .config) (u := t) rfl may row (by decide) passes count wrote
      refine ⟨_, stepped, serves, config, (changes.mono (gs := [.config, .ports, .mgmt]) (by decide)).andThen
        (State.setMgmt_changes _ e), ?_⟩
      intro x r1 w
      obtain ⟨rfl, -⟩ := may
      have last : (decide (Port.u = .u) && decide (portIdx x = 4)) = decide (x = .u) := by
        rcases x with (_ | _ | _ | _) | _ <;> rfl
      have record : (t.setMgmt e).port x = r1.writeSettings w (decide (x = .u)) := last ▸ ports x
      rw [record]
      exact ⟨fun same => if_pos same, fun other => if_neg other⟩

end Sys2Proof.Machine
end

section
/-! PROOFS. SVT_LOAD, SVT_COMMIT and RESTART taken or refused, and every table entry read back from its write form (R29 to
R32, R182, R185, 12.5). -/

-- The text is compiled as a whole: side by side its proofs would need more threads than there is memory for.
set_option Elab.async false

namespace Sys2Proof.Machine

/-! ### A load -/

/-- What stands at an index after entries were written from an index on (R30). -/
theorem getElem?_overwrite (cells : List SvtEntry) (start : Nat) (es : List SvtEntry) (k : Nat)
    (fits : start + es.length ≤ cells.length) :
    (overwrite cells start es)[k]? = if start ≤ k ∧ k < start + es.length then es[k - start]? else cells[k]? := by
  induction cells, start, es using overwrite.induct generalizing k with
  | case1 start es =>
    obtain rfl : es = [] := List.eq_nil_of_length_eq_zero (by simpa using Nat.le_zero.mp (Nat.le_trans (Nat.le_add_left ..) fits))
    simp [overwrite]
  | case2 start cells none =>
    have out : ¬ (start ≤ k ∧ k < start + ([] : List SvtEntry).length) := by simp
    rw [if_neg out]
    cases cells <;> rfl
  | case3 c cs e es ih =>
    cases k with
    | zero => simp [overwrite]
    | succ k =>
      have rest := ih k (by simpa using fits)
      simpa [overwrite] using rest
  | case4 c cs start e es ih =>
    cases k with
    | zero => simp [overwrite]
    | succ k =>
      have rest := ih k (by simp only [List.length_cons] at fits ⊢; omega)
      simp only [overwrite, List.getElem?_cons_succ, rest, List.length_cons, Nat.succ_eq_add_one, Nat.add_sub_add_right]
      congr 1
      simp only [eq_iff_iff]
      omega

theorem toNat_svt24 (a b c : Byte) : (svt24 a b c).toNat = a.toNat * 65536 + b.toNat * 256 + c.toNat := by
  rw [svt24, BitVec.toNat_append, BitVec.toNat_append, ← Nat.shiftLeft_add_eq_or_of_lt b.isLt,
    ← Nat.shiftLeft_add_eq_or_of_lt c.isLt]
  simp only [Nat.shiftLeft_eq]
  omega

/-- Three bytes an entry (R29, 12.5). -/
theorem getElem?_readSvtEntries (n : Nat) (data : List Byte) (length : data.length = 3 * n) :
    (readSvtEntries data).length = n ∧ ∀ j, j < n → (readSvtEntries data)[j]? =
      some (svt24 (data.getD (3 * j) 0) (data.getD (3 * j + 1) 0) (data.getD (3 * j + 2) 0)) := by
  induction n generalizing data with
  | zero =>
    obtain rfl := List.eq_nil_of_length_eq_zero length
    exact ⟨rfl, fun j above => absurd above (Nat.not_lt_zero j)⟩
  | succ n ih =>
    match data, length with
    | a :: b :: c :: rest, length =>
      obtain ⟨size, entries⟩ := ih rest (by simp only [List.length_cons] at length; omega)
      refine ⟨by simp [readSvtEntries, size], fun j below => ?_⟩
      cases j with
      | zero => rfl
      | succ j => exact entries j (Nat.lt_of_succ_lt_succ below)

/-- A loaded bank, entry by entry (R30). -/
theorem Bank.load_get (b : Bank) {start n : Nat} {data : List Byte} (length : data.length = 3 * n)
    (fits : start + n ≤ 251) (k : Fin 251) : ((Bank.load b start (readSvtEntries data)).get k).toNat =
      if start ≤ k.val ∧ k.val < start + n then
        (data.getD (3 * (k.val - start)) 0).toNat * 65536 + (data.getD (3 * (k.val - start) + 1) 0).toNat * 256
          + (data.getD (3 * (k.val - start) + 2) 0).toNat
      else (b.get k).toNat := by
  obtain ⟨size, entries⟩ := getElem?_readSvtEntries n data length
  have cells : (overwrite b.cells start (readSvtEntries data))[k.val]? = _ :=
    getElem?_overwrite b.cells start (readSvtEntries data) k.val (by rw [size, b.size]; exact fits)
  have entry (b : Bank) : Bank.entry b k = (b.cells[k.val]?.getD 0).toNat := by
    rw [Bank.entry, List.getD_eq_getElem?_getD]
  rw [← Bank.entry_eq_get, ← Bank.entry_eq_get, entry, entry, Bank.load, cells, size]
  split
  · next inside =>
    rw [entries _ (by omega), Option.getD_some, toNat_svt24]
  · rfl

/-- R31: a job in flight was taken under another generation. -/
theorem State.interlocked_iff (s : State) : s.interlocked = true ↔ ∃ j, s.job = some j ∧ j.gen ≠ s.svt.gen := by
  simp [State.interlocked, Option.any_eq_true]

section
variable {s : State} {level : Nat} {a : Args} (may : ¬ commandLevel < level)
include may

theorem State.loadAnswer_malformed (bad : ¬ (1 ≤ a.count.toNat ∧ a.count.toNat ≤ 14 ∧ a.data.length = 3 * a.count.toNat)) :
    s.loadAnswer level a = (s, a.echo .malformed) := by
  unfold State.loadAnswer
  rw [if_neg may, if_pos (by omega)]

theorem State.commitRefusal_malformed (bad : a.count ≠ 0 ∨ a.data ≠ []) :
    s.commitRefusal level a = some .malformed := by
  unfold State.commitRefusal
  rw [if_neg may, if_pos bad]

theorem restartRefusal_malformed (bad : a.count ≠ 0 ∨ a.data ≠ []) : restartRefusal level a = some .malformed := by
  unfold restartRefusal
  rw [if_neg may, if_pos bad]

section
variable (fits : 1 ≤ a.count.toNat ∧ a.count.toNat ≤ 14 ∧ a.data.length = 3 * a.count.toNat)
include fits

theorem State.loadAnswer_busy (older : s.interlocked = true) : s.loadAnswer level a = (s, a.echo .busy) := by
  unfold State.loadAnswer
  rw [if_neg may, if_neg (by omega), if_pos older]

variable (free : ¬ s.interlocked = true)
include free

theorem State.loadAnswer_badIndex (outside : 251 < a.index.toNat + a.count.toNat) :
    s.loadAnswer level a = (s, a.echo .badIndex) := by
  unfold State.loadAnswer
  rw [if_neg may, if_neg (by omega), if_neg free, if_pos outside]

theorem State.loadAnswer_ok (inside : a.index.toNat + a.count.toNat ≤ 251) :
    s.loadAnswer level a = (s.loadShadow a.index.toNat (readSvtEntries a.data), a.echo .ok) := by
  unfold State.loadAnswer
  rw [if_neg may, if_neg (by omega), if_neg free, if_neg (Nat.not_lt_of_le inside)]

end

section
variable (count : a.count = 0) (data : a.data = [])
include count data

theorem State.commitRefusal_busy (older : s.interlocked = true) : s.commitRefusal level a = some .busy := by
  unfold State.commitRefusal
  rw [if_neg may, if_neg (by simp [count, data]), if_pos older]

theorem State.commitRefusal_none (free : ¬ s.interlocked = true) : s.commitRefusal level a = none := by
  unfold State.commitRefusal
  rw [if_neg may, if_neg (by simp [count, data]), if_neg free]

theorem restartRefusal_none : restartRefusal level a = none := by
  unfold restartRefusal
  rw [if_neg may, if_neg (by simp [count, data])]

end

end

theorem State.beginCommit_none {s : State} {q : Request} {a : Args} (none : s.commitRefusal q.level a = .none) :
    s.beginCommit q a = s.setMgmt (.committing q) := by
  unfold State.beginCommit
  rw [none]

theorem State.beginRestart_none {s : State} {q : Request} {a : Args} (none : restartRefusal q.level a = .none) :
    s.beginRestart q a =
      (s.setMgmt (.restarting q)).handReply q.port (s.replyFrame q (a.echo .ok)) .restart := by
  unfold State.beginRestart
  rw [none]

/-- Settles O50: each command's checks in their order, then what the accepted command does. -/
theorem loadCommitAndRestartAreTakenByTheirChecks : Obligations.LoadCommitAndRestartAreTakenByTheirChecks := by
  unfold Obligations.LoadCommitAndRestartAreTakenByTheirChecks
  intro s p table r h allowed n i older fits load commit
  let s1 := s.asked p r.commission
  have may : ¬ commandLevel < (requestRecord p r.env r.commission []).level :=
    Nat.not_lt_of_le (requestRecord_level_may allowed [])
  have interlock : s1.interlocked = true ↔ older := s1.interlocked_iff
  have loads {st : Status} (answer : s1.loadAnswer (requestRecord p r.env r.commission []).level
      (requestArgs 4 table r.index r) = (s1, (requestArgs 4 table r.index r).echo st)) : load st.code :=
    exec_answered (a := (requestArgs 4 table r.index r).echo st) (exec_svtLoad_admits h)
      (by rw [State.take_svtLoad]; exact congrArg (State.serve _ _) answer)
  have commits {st : Status} (refused : s1.commitRefusal (requestRecord p r.env r.commission []).level
      (requestArgs 5 table r.index r) = some st) : commit st.code :=
    exec_answered (a := (requestArgs 5 table r.index r).echo st) (exec_svtCommit_admits h)
      (by rw [State.take_svtCommit]; exact State.beginCommit_refused refused)
  refine ⟨fun bad => loads (State.loadAnswer_malformed may bad),
    fun good busy => loads (State.loadAnswer_busy may good (interlock.mpr busy)),
    fun good free outside => loads (State.loadAnswer_badIndex may good (interlock.not.mpr free) outside),
    fun good free inside => ?_, fun bad => commits (State.commitRefusal_malformed may bad),
    fun count data busy => commits (State.commitRefusal_busy may count data (interlock.mpr busy)),
    fun count data free => ?_, fun bad => ?_, fun count data => ?_⟩
  · have answer := State.loadAnswer_ok (s := s1) (a := requestArgs 4 table r.index r) may good (interlock.not.mpr free)
      inside
    have stepped := exec_svtLoad_admits (table := table) h
    rw [State.take_svtLoad] at stepped
    refine ⟨_, stepped.trans (congrArg Host.Outcome.next ((congrArg (State.serve _ _) answer).trans
      (State.serve_changed ..))), rfl, rfl, rfl, rfl, fun k => ?_, ?_⟩
    · obtain ⟨-, -, length⟩ := good
      exact Bank.load_get s.svt.shadow length inside k
    · exact ((s1.setSvt_changes _).mono (gs := [.svt, .mgmt]) (by decide)).andThen (State.setMgmt_changes _ _)
  · have none := State.commitRefusal_none (s := s1) (a := requestArgs 5 table r.index r) may count data
      (interlock.not.mpr free)
    rw [exec_svtCommit_admits h, State.take_svtCommit]
    exact congrArg Host.Outcome.next (State.beginCommit_none none)
  · have refused := restartRefusal_malformed (a := requestArgs 8 table r.index r) may bad
    exact exec_answered (a := (requestArgs 8 table r.index r).echo .malformed) (exec_restart_admits h)
      (by rw [State.take_restart]; exact State.beginRestart_refused refused)
  · have none : restartRefusal (requestRecord p r.env r.commission (requestPayload 8 table r.index r)).level
        (requestArgs 8 table r.index r) = .none := restartRefusal_none may count data
    obtain ⟨rfl, -⟩ := allowed
    rw [exec_restart_admits h, State.take_restart]
    have reply : (s.asked .u r.commission).replyFrame
        (requestRecord .u r.env r.commission (requestPayload 8 table r.index r))
        ((requestArgs 8 table r.index r).echo .ok) = replyTo s.unitNo .u r.env 8 0 r.index r.count [] := rfl
    rw [count] at reply
    refine congrArg Host.Outcome.next ((State.beginRestart_none none).trans ((State.handReply_u ..).trans ?_))
    rw [reply]
    rfl

/-! ### Fields of a write form -/

theorem toNat_u8 {n : Nat} (fits : n < 256) : (u8 n).toNat = n := Nat.mod_eq_of_lt fits

theorem nat16_u16 {n : Nat} (fits : n < 65536) : nat16 (u8 (n / 256)) (u8 n) = n := by
  have high : (u8 (n / 256)).toNat = n / 256 := toNat_u8 (by omega)
  have low : (u8 n).toNat = n % 256 := rfl
  rw [nat16, high, low]
  omega

theorem append_u16 (w : BitVec 16) : (u8 (w.toNat / 256) ++ u8 w.toNat : BitVec 16) = w := by
  rw [← BitVec.toNat_inj, nat16_eq, nat16_u16 w.isLt]

theorem int16_i16 {z : Int} (low : -32768 ≤ z) (high : z < 32768) :
    int16 ((BitVec.ofInt 16 z).extractLsb' 8 8) ((BitVec.ofInt 16 z).extractLsb' 0 8) = z := by
  have whole (w : BitVec 16) : (w.extractLsb' 8 8 ++ w.extractLsb' 0 8 : BitVec 16) = w := by
    rw [← BitVec.toNat_inj, nat16_eq, nat16, BitVec.extractLsb'_toNat, BitVec.extractLsb'_toNat,
      Nat.shiftRight_eq_div_pow, Nat.shiftRight_zero]
    have := w.isLt
    omega
  rw [int16, whole, BitVec.toInt_ofInt]
  exact Int.bmod_eq_of_le (by omega) (by omega)

/-! ### Entries -/

theorem SensorKind.ofCode_code (k : SensorKind) : SensorKind.ofCode k.code = some k := by cases k <;> rfl

theorem ForwardMode.ofCode_code (m : ForwardMode) : ForwardMode.ofCode m.code = some m := by cases m <;> rfl

/-- The first byte of a present SDT entry: bit 7 present, bit 6 the report enable, the kind code (12.5). -/
theorem sdtFirstByte (report : Bool) (k : SensorKind) :
    let b := u8 (128 + bit report * 64 + k.code)
    b.extractLsb' 2 4 = 0 ∧ b.msb = true ∧ (b.extractLsb' 0 2).toNat = k.code ∧ b.getLsbD 6 = report := by
  cases report <;> cases k <;> decide

/-- The third byte: the weight above the mode code (12.5). -/
theorem sdtThirdByte (weight : Fin 16) (m : ForwardMode) :
    let b := u8 (weight.val * 16 + m.code)
    (b.extractLsb' 0 4).toNat = m.code ∧ (b.extractLsb' 4 4).toFin = weight := by
  cases m <;> revert weight <;> decide

theorem readSdtEntry_some {c : SensorConfig} (valid : c.valid = true) :
    readSdtEntry (sdtWriteForm (some c)) = some (some c) := by
  have ranges := valid
  simp only [SensorConfig.valid, inRange, Bool.and_eq_true, decide_eq_true_eq] at ranges
  obtain ⟨reserved, present, kind, report⟩ := sdtFirstByte c.reportEnable c.kind
  obtain ⟨mode, weight⟩ := sdtThirdByte c.weight c.mode
  have zone : (u8 c.zone.val).toNat = c.zone.val := toNat_u8 (by have := c.zone.isLt; omega)
  have deadband : (u8 c.deadband).toNat = c.deadband := toNat_u8 (by omega)
  have limit : nat16 (u8 (c.staleLimit / 256)) (u8 c.staleLimit) = c.staleLimit := nat16_u16 (by omega)
  have notDefault : ¬ c.staleLimit = 0 := by omega
  have form : sdtWriteForm (some c) =
      [u8 (128 + bit c.reportEnable * 64 + c.kind.code), u8 c.zone.val, u8 (c.weight.val * 16 + c.mode.code),
        u8 c.deadband, u8 (c.ext.toNat / 256), u8 c.ext.toNat,
        (BitVec.ofInt 16 c.rhOffset).extractLsb' 8 8, (BitVec.ofInt 16 c.rhOffset).extractLsb' 0 8,
        (BitVec.ofInt 16 c.tOffset).extractLsb' 8 8, (BitVec.ofInt 16 c.tOffset).extractLsb' 0 8,
        (BitVec.ofInt 16 c.tLo).extractLsb' 8 8, (BitVec.ofInt 16 c.tLo).extractLsb' 0 8,
        (BitVec.ofInt 16 c.tHi).extractLsb' 8 8, (BitVec.ofInt 16 c.tHi).extractLsb' 0 8,
        u8 (c.staleLimit / 256), u8 c.staleLimit] := rfl
  have inside : (u8 c.zone.val).toNat < 32 := zone.symm ▸ c.zone.isLt
  have sameZone : (⟨(u8 c.zone.val).toNat, inside⟩ : Fin 32) = c.zone := Fin.ext zone
  rw [form, readSdtEntry, if_neg (not_not_intro reserved), if_neg (by simp [present]), kind, mode,
    SensorKind.ofCode_code, ForwardMode.ofCode_code]
  dsimp only
  rw [dif_pos inside]
  simp only [sameZone, weight, deadband, report, append_u16, limit, if_neg notDefault,
    int16_i16 (z := c.rhOffset) (by omega) (by omega), int16_i16 (z := c.tOffset) (by omega) (by omega),
    int16_i16 (z := c.tLo) (by omega) (by omega), int16_i16 (z := c.tHi) (by omega) (by omega), valid, if_true]

theorem wetnessOf_getD {w : Option Selector} (notNull : ∀ x, w = some x → x.toNat % 64 ≠ 0) :
    wetnessOf (w.getD 0) = w := by
  cases w with
  | none => rfl
  | some x => exact if_neg (by rw [Option.getD_some, selectorNull_iff]; exact notNull x rfl)

/-- Four selectors, of which the associated list is the first (12.5). -/
theorem assoc_written {l : List Selector} (few : l.length ≤ 4) :
    ∃ a0 a1 a2 a3, (l ++ List.replicate 4 0).take 4 = [a0, a1, a2, a3] ∧ [a0, a1, a2, a3].take l.length = l := by
  match l, few with
  | [], _ => exact ⟨0, 0, 0, 0, rfl, rfl⟩
  | [a], _ => exact ⟨a, 0, 0, 0, rfl, rfl⟩
  | [a, b], _ => exact ⟨a, b, 0, 0, rfl, rfl⟩
  | [a, b, c], _ => exact ⟨a, b, c, 0, rfl, rfl⟩
  | [a, b, c, d], _ => exact ⟨a, b, c, d, rfl, rfl⟩

theorem sftFirstByte (report : Bool) :
    let b := u8 (128 + bit report * 64)
    b.extractLsb' 0 6 = 0 ∧ b.msb = true ∧ b.getLsbD 6 = report := by cases report <;> decide

theorem readSftEntry_some {c : SurfaceConfig} (valid : assocValid c.assoc = true) (probe : c.probe.toNat % 64 ≠ 0)
    (pad : ∀ w, c.wetness = some w → w.toNat % 64 ≠ 0) : readSftEntry (sftWriteForm (some c)) = some (some c) := by
  have few : c.assoc.length ≤ 4 := by
    simp only [assocValid, Bool.and_eq_true, decide_eq_true_eq] at valid
    omega
  obtain ⟨a0, a1, a2, a3, bytes, list⟩ := assoc_written few
  obtain ⟨reserved, present, report⟩ := sftFirstByte c.reportEnable
  have zone : (u8 c.zone.val).toNat = c.zone.val := toNat_u8 (by have := c.zone.isLt; omega)
  have thr : (u8 c.thr.val).toNat = c.thr.val := toNat_u8 (by have := c.thr.isLt; omega)
  have size : (u8 c.assoc.length).toNat = c.assoc.length := toNat_u8 (by omega)
  have form : sftWriteForm (some c) =
      [u8 (128 + bit c.reportEnable * 64), u8 c.zone.val, u8 c.thr.val, c.probe, c.wetness.getD 0,
        u8 c.assoc.length, a0, a1, a2, a3] := by
    rw [sftWriteForm, bytes]
    rfl
  have inZone : (u8 c.zone.val).toNat < 32 := zone.symm ▸ c.zone.isLt
  have inThr : (u8 c.thr.val).toNat < 8 := thr.symm ▸ c.thr.isLt
  have sameZone : (⟨(u8 c.zone.val).toNat, inZone⟩ : Fin 32) = c.zone := Fin.ext zone
  have sameThr : (⟨(u8 c.thr.val).toNat, inThr⟩ : Fin 8) = c.thr := Fin.ext thr
  rw [form, readSftEntry, if_neg (not_not_intro reserved), if_neg (by simp [present]), dif_pos inZone, dif_pos inThr]
  simp only [size, list, sameZone, sameThr, report, wetnessOf_getD pad]
  exact if_pos ⟨few, valid, (selectorNull_eq_false_iff _).mpr probe⟩

theorem readThrEntry_written {t : ThrSet} (ordered : t.Ordered) : readThrEntry (thrWriteForm t) = some t := by
  have ranges := ordered
  simp only [ThrSet.Ordered] at ranges
  have form : thrWriteForm t =
      [(BitVec.ofInt 16 t.watch).extractLsb' 8 8, (BitVec.ofInt 16 t.watch).extractLsb' 0 8,
        (BitVec.ofInt 16 t.alert).extractLsb' 8 8, (BitVec.ofInt 16 t.alert).extractLsb' 0 8,
        (BitVec.ofInt 16 t.wet).extractLsb' 8 8, (BitVec.ofInt 16 t.wet).extractLsb' 0 8, u8 t.hyst, u8 t.dwell] := rfl
  have hyst : (u8 t.hyst).toNat = t.hyst := toNat_u8 (by omega)
  have dwell : (u8 t.dwell).toNat = t.dwell := toNat_u8 (by omega)
  rw [form, readThrEntry]
  simp only [int16_i16 (z := t.watch) (by omega) (by omega), int16_i16 (z := t.alert) (by omega) (by omega),
    int16_i16 (z := t.wet) (by omega) (by omega), hyst, dwell]
  exact if_pos ((ThrSet.valid_iff t).mpr ordered)

/-- The last byte of a slot binding: mode, single-shot, inhibit (12.5). -/
theorem slotLastByte (mode : SlotMode) (singleShot inhibit : Bool) :
    let b := u8 (mode.code + bit singleShot * 64 + bit inhibit * 128)
    b.toNat % 64 = mode.code ∧ b.getLsbD 6 = singleShot ∧ b.getLsbD 7 = inhibit := by
  cases mode <;> revert singleShot inhibit <;> decide

theorem readSlotEntry_written {b : SlotBinding} (mask : b.idMatch &&& ~~~b.idMask = 0) :
    readSlotEntry (slotWriteForm b) = some b := by
  obtain ⟨mode, singleShot, inhibit⟩ := slotLastByte b.mode b.singleShot b.inhibit
  have below : (b.kinds.setWidth 8).toNat = b.kinds.toNat := by
    rw [BitVec.toNat_setWidth]
    have := b.kinds.isLt
    omega
  have kinds : (b.kinds.setWidth 8).setWidth 5 = b.kinds := by
    rw [← BitVec.toNat_inj, BitVec.toNat_setWidth, below]
    exact Nat.mod_eq_of_lt b.kinds.isLt
  have small : b.mode.code < 2 := by cases b.mode <;> decide
  have named : (if b.mode.code = 0 then SlotMode.single else .batch) = b.mode := by cases b.mode <;> rfl
  have good : ¬ (32 ≤ (b.kinds.setWidth 8).toNat ∨ b.idMatch &&& ~~~b.idMask ≠ 0 ∨ 2 ≤ b.mode.code) := by
    have := b.kinds.isLt
    rw [below]
    simp only [mask, ne_eq, not_true_eq_false, false_or]
    omega
  rw [slotWriteForm, readSlotEntry_eq, mode, if_neg good, kinds, singleShot, inhibit, named]

theorem readZoneEntry_written (z : Zone) : readZoneEntry (zoneWriteForm z) = some (z.summary, z.fallback) := by
  unfold zoneWriteForm
  cases z.summary <;> cases z.fallback <;> rfl

theorem readSettings_written (t : Settings) : readSettings (settingsByte t) = some t := by
  obtain ⟨rate, parity, rxInv, txInv⟩ := t
  cases parity <;> revert rate rxInv txInv <;> decide

theorem readLinesEntry_written (l : Tbl 5 Settings) : readLinesEntry (linesWriteForm l) = some l := by
  obtain ⟨cells, size⟩ := l
  match cells, size with
  | [a, b, c, d, e], _ =>
    show readLinesEntry [settingsByte a, settingsByte b, settingsByte c, settingsByte d, settingsByte e] = _
    simp only [readLinesEntry, readSettings_written]

/-- Settles O54: entry by entry, each field read from the bytes it was written to. -/
theorem tableEntriesSurviveTheirWriteForm : Obligations.TableEntriesSurviveTheirWriteForm := by
  unfold Obligations.TableEntriesSurviveTheirWriteForm
  refine ⟨fun c => readSdtEntry_some, rfl, fun c => readSftEntry_some, rfl, fun t => readThrEntry_written,
    fun b => readSlotEntry_written, readZoneEntry_written, readLinesEntry_written, fun s c low high => ?_,
    fun s c low high => ?_, fun c => readLinesEntry_written c.lines⟩
  · have length : nat16 (u8 (c.epochLength / 256)) (u8 c.epochLength) = c.epochLength := nat16_u16 (by omega)
    show s.writeEpoch [u8 (c.epochLength / 256), u8 c.epochLength] = _
    rw [State.writeEpoch_eq, length, if_pos ⟨low, high⟩]
    rfl
  · have limit : (u8 c.silenceLimit).toNat = c.silenceLimit := toNat_u8 (by omega)
    show s.writeSilence [u8 c.silenceLimit] = _
    rw [State.writeSilence_eq, limit, if_pos ⟨low, high⟩]
    rfl

end Sys2Proof.Machine
end
